-- ==== Sys2Proof/Word.lean ====
section
/-! DEFINITION. The byte of the command ports and the shape shared by the things the part holds
once per axis. -/

namespace Sys2Proof

/-- A byte of a port frame, of the marker reader line or of the sound flash. -/
abbrev Byte := BitVec 8

/-- One value for each of the left wheel, the right wheel and the turntable. -/
structure PerAxis (α : Type) where
  left : α
  right : α
  turntable : α
  deriving DecidableEq, Repr

/-- One value for each of the ports A, B and C. -/
structure PerPort (α : Type) where
  a : α
  b : α
  c : α
  deriving DecidableEq, Repr

end Sys2Proof
end

