-- ==== Sys2Proof/Syntax.lean ====
section
/-! DEFINITION. The commands of the NE-36: one constructor for each row of spec/opcode_table.json.
Operands are what the command summary of chapter 11 carries, as raw bytes and numbers, or the levels
and bytes that the equipment presents. -/

namespace Sys2Proof

/-- The three command ports (R191). -/
inductive Port
  | a | b | c
  deriving DecidableEq, Repr

/-- The three encoders, and the three servo axes they measure (R1, R47). -/
inductive Axis
  | left | right | turntable
  deriving DecidableEq, Repr

/-- Levels of the part's input lines: the drive alarms (R56), the occupancy switches and lock pairs
of the seats (R95, bit n is seat n, 1 is closed) and the effect readbacks (R161, bit n is channel n,
1 is on). -/
structure Pins where
  alarm : PerAxis Bool
  occupancy : BitVec 8
  lka : BitVec 8
  lkb : BitVec 8
  readback : BitVec 12
  deriving DecidableEq, Repr

/-- How the ends that fall in a tick or sample period are taken: inside it, as the rules word them
("in that same tick"), or each as a step of its own right after it, as 95_what_each_step_holds.md
lists them (log 4). -/
inductive Ends
  | inTick | asSteps
  deriving DecidableEq, Repr

/-- The seven bytes of an effect pattern on the port (chapter 11, command summary). -/
structure PatternBytes where
  mode : Byte
  onTime : BitVec 16
  offTime : BitVec 16
  countOrDuty : Byte
  link : Byte
  deriving DecidableEq, Repr

/-- The argument bytes of Append Leg (command 20h). -/
structure LegBytes where
  direction : Byte
  length : BitVec 24
  top : Byte
  steer : BitVec 16
  flow : Byte
  dwell : BitVec 16
  tag : Byte
  deriving DecidableEq, Repr

/-- The argument bytes of Play (command 71h) and of a PLAY action. -/
structure PlayBytes where
  voice : Byte
  clip : Byte
  gain : Byte
  fadeIn : Byte
  zones : Byte
  plays : Byte
  hold : Byte
  cut : Byte
  deriving DecidableEq, Repr

/-- The argument bytes of Load Cue (command 50h): the twelve fixed bytes and the action records of
ten bytes each. -/
structure CueBytes where
  slot : Byte
  trigger : BitVec 32
  direction : Byte
  latestPresent : Byte
  latest : BitVec 32
  count : Byte
  actions : List (Vector Byte 10)
  deriving DecidableEq, Repr

/-- What a ramp table write names (R23): the step count or one step. -/
inductive RampEntry
  | count
  | step (k : Fin 16)
  deriving DecidableEq, Repr

/-- The commands, one per row of the table of operations and events, in the table's order. -/
inductive Instr
  | powerOnReset
  | frameStart (p : Port)
  | csRise (p : Port)
  | unknownCode (p : Port) (code : Byte)
  | nop (p : Port)
  | readStatus (p : Port)
  | readSetting (p : Port) (number : Byte)
  | writeSetting (p : Port) (number : Byte) (value : BitVec 32)
  | writeEventMask (p : Port) (which : Port) (value : BitVec 32)
  | writePhaseWatchSet (p : Port) (which : Port) (value : BitVec 32)
  | writeEncoderErrorLimit (p : Port) (value : BitVec 32)
  | writeRampTable (p : Port) (entry : RampEntry) (value : BitVec 32)
  | writeTurntableCountsPerRevolution (p : Port) (value : BitVec 32)
  | writeTurntableStep (p : Port) (k : Fin 4) (value : BitVec 32)
  | writeFittedSeatCount (p : Port) (value : BitVec 32)
  | writeExclusivePairMask (p : Port) (value : BitVec 32)
  | resetSectionMotion (p : Port)
  | resetSectionShow (p : Port)
  | loadMarker (p : Port) (id : Byte) (position : BitVec 32) (tolerance : BitVec 16) (kind : Byte)
  | deleteMarker (p : Port) (id : Byte)
  | clearMarkers (p : Port)
  | zeroRoute (p : Port)
  | readRoute (p : Port)
  | readMarker (p : Port) (id : Byte)
  | readMarkerList (p : Port)
  | encoderTransition (axis : Axis) (a b : Bool)
  | turntableIndex
  | markerByteReceived (byte : Byte) (stopHigh : Bool)
  | markerGapExpiry
  | barCountEdge (seat : Fin 8) (lowering : Bool)
  | motionTick (pins : Pins) (ends : Ends)
  | legEnd
  | retreatAtRest
  | preEnd
  | dwellEnd
  | postEnd
  | sceneTimerExpiry
  | ttPreEnd
  | turnEnd
  | turnRetreatAtRest
  | homingLimit
  | pairFilterAccept (seat : Fin 8)
  | occupancyChange (seat : Fin 8)
  | pullInEnd (seat : Fin 8)
  | releaseTimeout (seat : Fin 8)
  | concurTimeout
  | consentExpired
  | effectTimeBaseTick (pins : Pins) (ends : Ends)
  | effectIntervalEnd (channel : Fin 12)
  | effectLockout (pair : Fin 6)
  | audioSamplePeriod (ends : Ends)
  | clipPassEnd (voice : Fin 6)
  | fadeEnd (voice : Fin 6)
  | flashGrant
  | refillSampleArrives (first second : Byte)
  | refillDone
  | mountReadDone (bytes : Vector Byte 12)
  | appendLeg (p : Port) (leg : LegBytes)
  | appendSeekLeg (p : Port) (leg : LegBytes) (marker : Byte) (action : Byte)
  | flushLegs (p : Port)
  | go (p : Port)
  | hold (p : Port)
  | releaseHold (p : Port) (reason : Byte)
  | softStop (p : Port)
  | hardStop (p : Port)
  | clearMotionFault (p : Port)
  | readMotion (p : Port)
  | readLegs (p : Port)
  | readDrive (p : Port) (pins : Pins)
  | turnTo (p : Port) (target : BitVec 16) (mode : Byte)
  | homeTurntable (p : Port)
  | readTurntable (p : Port)
  | releaseBars (p : Port) (mask : BitVec 8)
  | clearSeatFault (p : Port) (mask : BitVec 8)
  | readSeats (p : Port) (pins : Pins)
  | beginCheck (p : Port)
  | concur (p : Port) (generation : BitVec 16) (mask : BitVec 8)
  | renewConsent (p : Port) (generation : BitVec 16)
  | revokeConsent (p : Port)
  | readPermit (p : Port)
  | loadCue (p : Port) (cue : CueBytes)
  | deleteCue (p : Port) (slot : Byte)
  | armCues (p : Port)
  | disarmCues (p : Port)
  | fireCue (p : Port) (slot : Byte)
  | readCueEngine (p : Port)
  | readCue (p : Port) (slot : Byte)
  | readCueLog (p : Port)
  | setEffectStart (p : Port) (channel : Byte) (pattern : PatternBytes)
  | setEffectArm (p : Port) (channel : Byte) (pattern : PatternBytes)
  | setEffectOff (p : Port) (channel : Byte) (pattern : PatternBytes)
  | clearEffectLockout (p : Port) (pair : Byte)
  | readEffects (p : Port) (pins : Pins)
  | mountClips (p : Port)
  | play (p : Port) (args : PlayBytes)
  | stopVoice (p : Port) (voice : Byte) (step : Byte)
  | setVoiceGain (p : Port) (voice : Byte) (target : Byte) (step : Byte)
  | setZoneLevel (p : Port) (zone : Byte) (target : Byte) (step : Byte)
  | readSound (p : Port)
  | readClipTable (p : Port)
  | byteSlot (p : Port) (sdi : Byte) (pins : Pins)
  | resetRelease (csLow : PerPort Bool) (pairs : PerAxis (Bool × Bool))
  | startBit
  deriving DecidableEq, Repr

end Sys2Proof
end

