-- ==== Sys2Proof/Config.lean ====
section
/-! DEFINITION. What the part fixes once and for all (chapter 00, "Part at a glance"), and the free
values: constants with no body, so that no proof can rest on a value of theirs. -/

namespace Sys2Proof.Config

/-- Most legs the pending queue holds (R20). -/
def queueCapacity : Nat := 8

/-- Most entries the marker table holds (R9). -/
def markerCapacity : Nat := 32

/-- Most entries the cue log holds (R149). -/
def logCapacity : Nat := 16

/-- A voice asks for a refill while its FIFO holds fewer samples than this, and a refill reads at
most this many (R179). -/
def refillSamples : Nat := 256

/-- Consecutive samples with both readbacks on that lock a pair out (R161). -/
def conflictLimit : Nat := 5

/-- The time of the marker framer's gap timer in milliseconds (R8), counted in motion ticks (log 34). -/
def markerGap : Nat := 2

/-- Largest magnitudes of the route position and of a recorded route error (R6, R11). -/
def positionMax : Int := 2147483647
def positionMin : Int := -2147483648

/-- FREE VALUE (log 7). How many pulses of a tick plan have begun when a cut or a turntable stop
falls within the tick; the model reduces it to at most the pulses still due. -/
opaque pulsesEmitted : Nat → Nat

/-- FREE VALUE (log 8). Where within the running millisecond of the dim carrier a read falls, in
microseconds; the model takes it modulo 1000. -/
opaque carrierMicros : Nat → Nat

end Sys2Proof.Config
end

