-- ==== Sys2Proof/Machine/State.lean ====
section
/-! DEFINITION. The state of the NE-36 as plain data, block by block as chapter 00 assigns it, and
the state at the release of RESET. Every enumeration lists its values in the spec's own order, so
that `ctorIdx` is the value's position on the ports (R193, R207); where the spec lists a set in two orders, the
enumeration says which it takes. -/

namespace Sys2Proof.Machine

/-- No command of this part stops the machine: a motion fault is a phase (R75), not the end of a run. -/
inductive Fault
  deriving DecidableEq, Repr

/-- The host's rejection by name. No arm of `exec` uses it: every row has its meaning. -/
inductive Refusal
  /-- Raised by `exec` for a row that has no meaning yet. Safe: the machine stops. -/
  | notModelled (mnemonic : String)
  deriving DecidableEq, Repr

/-! ## Command ports (chapter 11) -/

/-- The reasons of a refused command, in the order of their port values (R196). -/
inductive Reason
  | unknown | rights | busy | state | range | full | stale | incomplete
  deriving DecidableEq, Repr

/-- The framer of a port (R192). -/
inductive Framer
  | deselected | awaitCode | arguments | void
  deriving DecidableEq, Repr

/-- A command whose argument bytes are still coming (R192); `received` in arrival order. -/
structure CommandInProgress where
  code : Byte
  received : List Byte
  owed : Nat
  deriving DecidableEq, Repr

/-- A response being sent (R194); `index` is the next byte to send. -/
structure Response where
  bytes : List Byte
  index : Nat
  deriving DecidableEq, Repr

structure LastRefusal where
  reason : Reason
  code : Byte
  deriving DecidableEq, Repr

/-- One command port (chapter 11, head table). `sdo` is the byte sent in the present slot (R191),
`waitRise` marks a port whose CS was low when RESET was released (R206). -/
structure PortState where
  framer : Framer
  inProgress : Option CommandInProgress
  response : Option Response
  sdo : Byte
  waitRise : Bool
  events : BitVec 32
  lastRefusal : Option LastRefusal
  mask : BitVec 32
  watch : BitVec 32
  attn : Bool
  deriving DecidableEq, Repr

/-! ## Settings (R203) -/

/-- A step of the wheel ramp (R23) or of the turntable ramp (R83). -/
structure RampStep where
  rate : Nat
  length : Nat
  deriving DecidableEq, Repr

/-- The causes of a show stop, in the order in which R187 and settings 133 to 136 list them, which is not
the order of the table of R78 (DESIGN CHOICE, log 43). -/
inductive ShowCause
  | motionFault | permitLost | positionLost | hardStop
  deriving DecidableEq, Repr

/-- The numbered settings but the six the ports hold (R203). -/
structure Settings where
  encoderErrorLimit : Nat
  mismatchLimit : Nat
  rampCount : Nat
  ramp : Vector RampStep 16
  preTime : Nat
  postTime : Nat
  servoHold : Bool
  wheelFollowingLimit : Nat
  turntableFollowingLimit : Nat
  countsPerRevolution : Nat
  turntableRamp : Vector RampStep 4
  fittedSeatCount : Nat
  occupancyFilterTime : Nat
  pairFilterTime : Nat
  barSlack : Nat
  pullInTime : Nat
  holdLevel : Nat
  releaseTimeout : Nat
  occupiedMinimum : Nat
  emptyMinimum : Nat
  concurWindow : Nat
  consentWindow : Nat
  safeOffMask : BitVec 12
  exclusivePairMask : BitVec 6
  flashSize : Nat
  duckLevel : Nat
  duckStep : Nat
  faultFadeStep : Nat
  announcementGain : Nat
  announcementClips : Vector Nat 4
  deriving DecidableEq, Repr

/-! ## Route Counter (chapter 01) -/

inductive MarkerKind
  | correct | check
  deriving DecidableEq, Repr

structure Marker where
  id : Nat
  position : Int
  tolerance : Nat
  kind : MarkerKind
  deriving DecidableEq, Repr

/-- The pending byte of the marker framer, and the milliseconds its gap timer has left; none once the
start bit of another byte has stopped the timer (R8). -/
structure PendingByte where
  byte : Byte
  gap : Option Nat
  deriving DecidableEq, Repr

structure LastMarker where
  id : Nat
  error : Int
  deriving DecidableEq, Repr

structure MarkRecord where
  position : Int
  id : Nat
  deriving DecidableEq, Repr

/-- The Route Counter (chapter 01, head table). `previous` is the decoder's last (A, B) state, absent
until a first state has been seen (R17). `markers` is kept in ascending id. -/
structure RouteCounter where
  position : Int
  delta : PerAxis Int
  previous : PerAxis (Option (Bool × Bool))
  errors : PerAxis Nat
  conditions : PerAxis Bool
  framer : Option PendingByte
  markers : List Marker
  mismatches : Nat
  lost : Bool
  lastMarker : Option LastMarker
  markRecord : Option MarkRecord
  deriving DecidableEq, Repr

/-! ## Motion Generator (chapters 02 and 04) -/

inductive Phase
  | idle | pre | accel | cruise | decel | dwell | holding | held | stopping | post | faulted
  deriving DecidableEq, Repr

inductive Travel
  | fwd | rev
  deriving DecidableEq, Repr

inductive LegKind
  | travel | seek
  deriving DecidableEq, Repr

inductive SeekAction
  | align | mark
  deriving DecidableEq, Repr

structure SeekSpec where
  marker : Nat
  action : SeekAction
  deriving DecidableEq, Repr

/-- A leg record as stored (R19); `seek` is present exactly for a SEEK leg. -/
structure Leg where
  direction : Travel
  length : Nat
  top : Nat
  steer : Int
  flow : Bool
  dwell : Nat
  tag : Nat
  seek : Option SeekSpec
  deriving DecidableEq, Repr

/-- The current leg with its run state (R31). `kEff` is the effective step of the last tick's profile
operation, absent while the leg has run no tick (R66). -/
structure CurrentLeg where
  leg : Leg
  rem : Nat
  kLeg : Nat
  kEff : Option Nat
  stepDistance : Nat
  exitStep : Option Nat
  markerTaken : Bool
  deriving DecidableEq, Repr

inductive LegOutcome
  | done | seekDone | seekFailed
  deriving DecidableEq, Repr

structure LastEnded where
  tag : Nat
  outcome : LegOutcome
  deriving DecidableEq, Repr

/-- The hold reason set (R61). -/
structure HoldSet where
  ride : Bool
  shows : Bool
  scene : Bool
  deriving DecidableEq, Repr

/-- A retreat in progress (R66). `ticked` tells that a profile operation has run since it began: the
outcome of a retreat that is at rest from its start follows in that first tick (R67). -/
structure Retreat where
  h : Nat
  distance : Nat
  atRest : Bool
  ticked : Bool
  deriving DecidableEq, Repr

inductive StopCause
  | commandA | commandB | permitLost | positionLost | sectionReset
  deriving DecidableEq, Repr

inductive StopKind
  | soft | hard
  deriving DecidableEq, Repr

structure LastStop where
  kind : StopKind
  cause : StopCause
  deriving DecidableEq, Repr

inductive FaultCause
  | followLeft | followRight | followTurntable
  | alarmLeft | alarmRight | alarmTurntable
  | encoderLeft | encoderRight | encoderTurntable
  | positionRange
  deriving DecidableEq, Repr

structure FaultRecord where
  cause : FaultCause
  position : Int
  tag : Option Nat
  deriving DecidableEq, Repr

/-- The Motion Generator (head tables of chapters 02 and 04). `lastEff` is the effective step of the last
profile operation, whichever leg it ran (R32, R65), absent before the first (log 37). -/
structure MotionGenerator where
  phase : Phase
  queue : List Leg
  current : Option CurrentLeg
  phaseTimer : Option Nat
  lastEnded : Option LastEnded
  servoLatch : Bool
  holds : HoldSet
  sceneTimer : Option Nat
  retreat : Option Retreat
  pendingStop : Option StopCause
  lastStop : Option LastStop
  fault : Option FaultRecord
  extraFaults : Nat
  lastEff : Option Nat
  deriving DecidableEq, Repr

/-! ## Drive Pulse Unit (chapter 03) -/

/-- The pulse plan of one axis for the tick under way (R47): the slots the tick was divided into, the
pulses due, fewer than the slots after a cut, and those known to have been emitted; the plan's end of
tick has all due emitted. -/
structure Plan where
  slots : Nat
  due : Nat
  emitted : Nat
  deriving DecidableEq, Repr

/-- The plan of a tick with `n` pulses due (R47): one slot for each. -/
def Plan.of (n : Nat) : Plan := { slots := n, due := n, emitted := 0 }

/-- The Drive Pulse Unit (chapter 03, head table). -/
structure DriveUnit where
  accumulator : Nat
  residual : Nat
  commanded : PerAxis (BitVec 32)
  measured : PerAxis (BitVec 32)
  plan : PerAxis Plan
  direction : PerAxis Travel
  enable : Bool
  brakeRelease : Bool
  deriving DecidableEq, Repr

/-! ## Turntable Axis (chapter 05) -/

inductive TurnPhase
  | idle | pre | homing | turning | stopping
  deriving DecidableEq, Repr

inductive TurnMode
  | short | fwd | rev
  deriving DecidableEq, Repr

/-- What a run is for (R86): a turn with its target and mode, or a homing. -/
inductive RunKind
  | turn (target : Nat) (mode : TurnMode)
  | home
  deriving DecidableEq, Repr

/-- The run in flight (chapter 05, head table); `kEff` is the effective step of the last tick. -/
structure Run where
  kind : RunKind
  direction : Travel
  rem : Nat
  k : Nat
  kEff : Option Nat
  stepDistance : Nat
  accumulator : Nat
  retreat : Option Retreat
  deriving DecidableEq, Repr

inductive TurnOutcome
  | done | stopped | cut
  deriving DecidableEq, Repr

structure LastTurn where
  target : Nat
  mode : TurnMode
  outcome : TurnOutcome
  deriving DecidableEq, Repr

inductive HomeOutcome
  | done | limit | permit | cut
  deriving DecidableEq, Repr

/-- The Turntable Axis (chapter 05, head table). `indexPart` is the part of this tick's delta counted
before an index that set the position (R82). -/
structure Turntable where
  phase : TurnPhase
  position : Nat
  homed : Bool
  run : Option Run
  timer : Option Nat
  lastTurn : Option LastTurn
  lastHome : Option HomeOutcome
  indexPart : Int
  deriving DecidableEq, Repr

/-! ## Seat Monitor (chapter 06) -/

inductive SeatState
  | notFitted | isOpen | locked | confirmed | releasing | fault
  deriving DecidableEq, Repr

inductive SeatFaultCause
  | pairDisagree | barSensor | releaseTimeout | lockLost
  deriving DecidableEq, Repr

inductive CheckResult
  | pass | short | notLocked | fault
  deriving DecidableEq, Repr

inductive PairReading
  | locked | unlocked | disagreement
  deriving DecidableEq, Repr

inductive Solenoid
  | off | pullIn | hold
  deriving DecidableEq, Repr

/-- One seat (chapter 06, head table). `pairDue` and `occupancyDue` tell that the last sample brought a
filter to its time and that the change has not been taken yet (R96, R97, log 4). The last three fields
are the settings as read when the seat entered RELEASING (R108, R109, log 13). -/
structure Seat where
  state : SeatState
  occupied : Bool
  bar : Nat
  confirmBar : Option Nat
  confirmGeneration : Option Nat
  cause : Option SeatFaultCause
  lastResult : Option CheckResult
  changes : Nat
  filtered : PairReading
  candidate : Option PairReading
  pairCount : Nat
  pairDue : Bool
  occupancyCount : Nat
  occupancyDue : Bool
  solenoid : Solenoid
  elapsed : Option Nat
  pullInTime : Nat
  holdLevel : Nat
  timeout : Nat
  deriving DecidableEq, Repr

/-- The eight seats and drive enable as last told (R53, R108). -/
structure SeatMonitor where
  seat : Vector Seat 8
  driveTold : Bool
  deriving DecidableEq, Repr

/-! ## Permit Unit (chapter 07) -/

inductive PermitState
  | noPermit | awaitingConcur | granted
  deriving DecidableEq, Repr

inductive LossCause
  | powerOn | checkFailed | concurTimeout | concurMismatch | seatChanged | consentExpired
  | revoked | release | newCheck | motionFault
  deriving DecidableEq, Repr

/-- The permit record (chapter 07, head table). -/
structure Permit where
  state : PermitState
  generation : Nat
  fittedMask : BitVec 8
  results : Vector (Option CheckResult) 8
  passMask : BitVec 8
  concurRemaining : Option Nat
  consentRemaining : Option Nat
  periodWindow : Option Nat
  lowGiven : Option Bool
  lastLoss : LossCause
  deriving DecidableEq, Repr

/-! ## Cue Engine (chapter 08) -/

inductive CueDirection
  | fwd | rev | any
  deriving DecidableEq, Repr

/-- A stored action record (R134): the fields of its kind as given. -/
inductive CueAction
  | play (args : PlayBytes)
  | stop (voice step : Byte)
  | gain (voice target step : Byte)
  | zone (zone target step : Byte)
  | effect (channel operation : Byte) (pattern : PatternBytes)
  | turn (target : BitVec 16) (mode : Byte)
  | sceneHold (duration : BitVec 16)
  deriving DecidableEq, Repr

structure Cue where
  trigger : Int
  direction : CueDirection
  latest : Option Int
  actions : List CueAction
  fired : Bool
  deriving DecidableEq, Repr

inductive EngineState
  | disarmed | armed | suppressed
  deriving DecidableEq, Repr

inductive CueOutcome
  | fired | missed | dropped
  deriving DecidableEq, Repr

structure LogEntry where
  slot : Nat
  outcome : CueOutcome
  action : Option Nat
  position : Int
  deriving DecidableEq, Repr

/-- The Cue Engine (chapter 08, head table); the log is kept oldest first. -/
structure CueEngine where
  slots : Vector (Option Cue) 64
  engine : EngineState
  log : List LogEntry
  outcomes : Nat
  deriving DecidableEq, Repr

/-! ## Effect Timer Bank (chapter 09) -/

inductive PatternMode
  | steady | pulse | burst | cycle | dim | off
  deriving DecidableEq, Repr

/-- A stored pattern (R154); `countOrDuty` is the count of a BURST and the duty of a DIM. -/
structure Pattern where
  mode : PatternMode
  onTime : Nat
  offTime : Nat
  countOrDuty : Nat
  link : Option Nat
  deriving DecidableEq, Repr

inductive ChannelState
  | off | steadyOn | pulseOn | burstOn | burstOff | cycleOn | cycleOff | dim | lockedOut
  deriving DecidableEq, Repr

structure Channel where
  state : ChannelState
  running : Option Pattern
  interval : Option Nat
  bursts : Option Nat
  armed : Option Pattern
  completions : Nat
  deriving DecidableEq, Repr

/-- The Effect Timer Bank (chapter 09, head table). `carrierSecond` tells which millisecond of the
2 ms dim carrier period runs (R156). -/
structure EffectBank where
  channel : Vector Channel 12
  conflicts : Vector Nat 6
  carrierSecond : Bool
  deriving DecidableEq, Repr

/-! ## Sound Unit (chapter 10) -/

inductive ClipFormat
  | pcm16 | pcm8u | pcm8s
  deriving DecidableEq, Repr

structure Clip where
  id : Nat
  format : ClipFormat
  start : Nat
  length : Nat
  loopStart : Nat
  deriving DecidableEq, Repr

inductive MountOutcome
  | done | badDirectory
  deriving DecidableEq, Repr

/-- A mount in progress (R169); `flashSize` is the setting as read when it began. -/
structure MountProgress where
  toRead : Option Nat
  next : Nat
  valid : Nat
  invalid : Nat
  flashSize : Nat
  deriving DecidableEq, Repr

structure LastMount where
  outcome : MountOutcome
  valid : Nat
  invalid : Nat
  deriving DecidableEq, Repr

inductive VoiceState
  | idle | playing | paused | fadingOut
  deriving DecidableEq, Repr

inductive HoldBehaviour
  | playOn | pauseOnHold
  deriving DecidableEq, Repr

inductive FadeReason
  | stop | showStop
  deriving DecidableEq, Repr

inductive EndReason
  | finished | stop | cut | showStop
  deriving DecidableEq, Repr

structure LastEnd where
  clip : Nat
  reason : EndReason
  deriving DecidableEq, Repr

/-- A voice record (R171); the FIFO's head is its oldest sample. `fadeDue` tells that the last tick left
a fade at gain 0 and that its end has not been taken yet (R176, log 4). -/
structure Voice where
  state : VoiceState
  clip : Option Nat
  cursor : Nat
  plays : Option Nat
  fetchPosition : Nat
  fetchPasses : Option Nat
  fetchDone : Bool
  gain : Nat
  target : Nat
  step : Nat
  zones : BitVec 4
  hold : HoldBehaviour
  fade : Option FadeReason
  fadeDue : Bool
  fifo : List Int
  primed : Bool
  starved : Bool
  refillInFlight : Bool
  endCount : Nat
  lastEnd : Option LastEnd
  deriving DecidableEq, Repr

structure ZoneLevel where
  current : Nat
  target : Nat
  step : Nat
  deriving DecidableEq, Repr

/-- Whom a flash read serves (R180). -/
inductive FlashOwner
  | mount
  | voice (v : Fin 6)
  deriving DecidableEq, Repr

/-- The read that holds the flash port: where it starts, its bytes, and for a refill the samples it
reads and how many have arrived (R167, R179). -/
structure FlashRead where
  owner : FlashOwner
  address : Nat
  bytes : Nat
  samples : Nat
  arrived : Nat
  deriving DecidableEq, Repr

inductive AnnouncementOutcome
  | played | noClip | notMounted | mounting
  deriving DecidableEq, Repr

structure LastAnnouncement where
  cause : ShowCause
  outcome : AnnouncementOutcome
  deriving DecidableEq, Repr

/-- The Sound Unit (chapter 10, head table). The mount state is MOUNTING exactly when `mount` is
present. `formed` and `sent` are the output samples of the four zones formed in this period and sent
in it (R185); `heldSeen` tells that the phase was HELD at the unit's last reading (R178). -/
structure SoundUnit where
  clips : List Clip
  mount : Option MountProgress
  mountRequest : Bool
  lastMount : Option LastMount
  voice : Vector Voice 6
  duck : Nat
  zone : Vector ZoneLevel 4
  zoneClips : Vector Nat 4
  lastServed : Nat
  flash : Option FlashRead
  lastAnnouncement : Option LastAnnouncement
  heldSeen : Bool
  formed : Vector Int 4
  sent : Vector Int 4
  deriving DecidableEq, Repr

/-! ## The whole part -/

/-- The state of the NE-36 with the queue of commands that wait. `pins` are the input lines as last
seen (log 9), `inReset` tells that RESET is asserted (R205), `freeCount` is the model's own counter
that picks the next free value (log 7). -/
structure State where
  ports : PerPort PortState
  settings : Settings
  route : RouteCounter
  motion : MotionGenerator
  drive : DriveUnit
  tt : Turntable
  seats : SeatMonitor
  permit : Permit
  cues : CueEngine
  effects : EffectBank
  sound : SoundUnit
  pins : Pins
  inReset : Bool
  freeCount : Nat
  pending : List Instr
  deriving DecidableEq, Repr

/-! ## Power-on values -/

/-- Chapter 11, head table. -/
def PortState.powerOn : PortState :=
  { framer := .deselected, inProgress := none, response := none, sdo := 0, waitRise := false,
    events := 0, lastRefusal := none, mask := 0, watch := 0, attn := false }

/-- The defaults of R203. -/
def Settings.powerOn : Settings :=
  { encoderErrorLimit := 16, mismatchLimit := 3, rampCount := 4,
    ramp := ((((Vector.replicate 16 ⟨30000, 65535⟩).set 0 ⟨200, 400⟩).set 1 ⟨600, 1200⟩).set 2
      ⟨1200, 2400⟩).set 3 ⟨2000, 4000⟩,
    preTime := 200, postTime := 500, servoHold := false,
    wheelFollowingLimit := 512, turntableFollowingLimit := 256,
    countsPerRevolution := 4096,
    turntableRamp := (((Vector.replicate 4 ⟨1000, 1024⟩).set 0 ⟨100, 64⟩).set 1 ⟨300, 256⟩).set 2
      ⟨600, 512⟩,
    fittedSeatCount := 8, occupancyFilterTime := 50, pairFilterTime := 20, barSlack := 3,
    pullInTime := 100, holdLevel := 5, releaseTimeout := 1500,
    occupiedMinimum := 40, emptyMinimum := 150, concurWindow := 2000, consentWindow := 500,
    safeOffMask := 4095#12, exclusivePairMask := 0#6,
    flashSize := 16, duckLevel := 48, duckStep := 4, faultFadeStep := 2, announcementGain := 160,
    announcementClips := Vector.replicate 4 0 }

/-- Chapter 01, head table, and R17. -/
def RouteCounter.powerOn : RouteCounter :=
  { position := 0, delta := ⟨0, 0, 0⟩, previous := ⟨none, none, none⟩, errors := ⟨0, 0, 0⟩,
    conditions := ⟨false, false, false⟩, framer := none, markers := [], mismatches := 0,
    lost := false, lastMarker := none, markRecord := none }

/-- Head tables of chapters 02 and 04. -/
def MotionGenerator.powerOn : MotionGenerator :=
  { phase := .idle, queue := [], current := none, phaseTimer := none, lastEnded := none,
    servoLatch := false, holds := ⟨false, false, false⟩, sceneTimer := none, retreat := none,
    pendingStop := none, lastStop := none, fault := none, extraFaults := 0,
    lastEff := none }

/-- Chapter 03, head table. -/
def DriveUnit.powerOn : DriveUnit :=
  { accumulator := 0, residual := 0, commanded := ⟨0, 0, 0⟩, measured := ⟨0, 0, 0⟩,
    plan := ⟨.of 0, .of 0, .of 0⟩, direction := ⟨.fwd, .fwd, .fwd⟩, enable := false,
    brakeRelease := false }

/-- Chapter 05, head table. -/
def Turntable.powerOn : Turntable :=
  { phase := .idle, position := 0, homed := false, run := none, timer := none, lastTurn := none,
    lastHome := none, indexPart := 0 }

/-- Chapter 06, head table: a fitted seat at power-on. -/
def Seat.powerOn : Seat :=
  { state := .isOpen, occupied := false, bar := 0, confirmBar := none, confirmGeneration := none,
    cause := none, lastResult := none, changes := 0, filtered := .unlocked, candidate := none,
    pairCount := 0, pairDue := false, occupancyCount := 0, occupancyDue := false, solenoid := .off,
    elapsed := none, pullInTime := 0, holdLevel := 0, timeout := 0 }

/-- Chapter 06, head table: all eight seats are fitted at power-on (R114). -/
def SeatMonitor.powerOn : SeatMonitor :=
  { seat := Vector.replicate 8 Seat.powerOn, driveTold := false }

/-- Chapter 07, head table. -/
def Permit.powerOn : Permit :=
  { state := .noPermit, generation := 0, fittedMask := 0, results := Vector.replicate 8 none,
    passMask := 0, concurRemaining := none, consentRemaining := none, periodWindow := none,
    lowGiven := none, lastLoss := .powerOn }

/-- Chapter 08, head table. -/
def CueEngine.powerOn : CueEngine :=
  { slots := Vector.replicate 64 none, engine := .disarmed, log := [], outcomes := 0 }

/-- Chapter 09, head table. -/
def Channel.powerOn : Channel :=
  { state := .off, running := none, interval := none, bursts := none, armed := none,
    completions := 0 }

def EffectBank.powerOn : EffectBank :=
  { channel := Vector.replicate 12 Channel.powerOn, conflicts := Vector.replicate 6 0,
    carrierSecond := false }

/-- R171, last column. -/
def Voice.powerOn : Voice :=
  { state := .idle, clip := none, cursor := 0, plays := none, fetchPosition := 0,
    fetchPasses := none, fetchDone := false, gain := 0, target := 0, step := 0, zones := 0,
    hold := .playOn, fade := none, fadeDue := false, fifo := [], primed := false, starved := false,
    refillInFlight := false, endCount := 0, lastEnd := none }

/-- Chapter 10, head table. -/
def SoundUnit.powerOn : SoundUnit :=
  { clips := [], mount := none, mountRequest := false, lastMount := none,
    voice := Vector.replicate 6 Voice.powerOn, duck := 255,
    zone := Vector.replicate 4 ⟨128, 128, 0⟩, zoneClips := Vector.replicate 4 0, lastServed := 4,
    flash := none, lastAnnouncement := none, heldSeen := false, formed := Vector.replicate 4 0,
    sent := Vector.replicate 4 0 }

/-- The input lines at reset: all inactive (DESIGN CHOICE, log 9). -/
def quietPins : Pins :=
  { alarm := ⟨false, false, false⟩, occupancy := 0, lka := 0, lkb := 0, readback := 0 }

/-- The part at the release of RESET (R205, R206), before its decoders have seen a state, with no
command waiting (log 10). -/
def State.reset : State :=
  { ports := ⟨.powerOn, .powerOn, .powerOn⟩, settings := .powerOn, route := .powerOn,
    motion := .powerOn, drive := .powerOn, tt := .powerOn, seats := .powerOn, permit := .powerOn,
    cues := .powerOn, effects := .powerOn, sound := .powerOn, pins := quietPins,
    inReset := false, freeCount := 0, pending := [] }

end Sys2Proof.Machine
end

