-- ==== Sys2Proof/Machine/Access.lean ====
section
/-! DEFINITION. Reading and changing one member of a `PerPort` or `PerAxis`, and changing one block
of the state. Everything else in the model changes the state through these. -/

namespace Sys2Proof

def PerPort.get {α : Type} (x : PerPort α) : Port → α
  | .a => x.a
  | .b => x.b
  | .c => x.c

def PerPort.modify {α : Type} (x : PerPort α) (f : α → α) : Port → PerPort α
  | .a => { x with a := f x.a }
  | .b => { x with b := f x.b }
  | .c => { x with c := f x.c }

def PerPort.map {α : Type} (x : PerPort α) (f : α → α) : PerPort α :=
  ⟨f x.a, f x.b, f x.c⟩

def PerAxis.get {α : Type} (x : PerAxis α) : Axis → α
  | .left => x.left
  | .right => x.right
  | .turntable => x.turntable

def PerAxis.modify {α : Type} (x : PerAxis α) (f : α → α) : Axis → PerAxis α
  | .left => { x with left := f x.left }
  | .right => { x with right := f x.right }
  | .turntable => { x with turntable := f x.turntable }

def PerAxis.set {α : Type} (x : PerAxis α) (i : Axis) (v : α) : PerAxis α :=
  x.modify (fun _ => v) i

namespace Machine

def State.onPorts (f : PerPort PortState → PerPort PortState) (s : State) : State :=
  { s with ports := f s.ports }

/-- Change the state of one port. -/
def State.onPort (p : Port) (f : PortState → PortState) (s : State) : State :=
  s.onPorts (·.modify f p)

def State.onSettings (f : Settings → Settings) (s : State) : State :=
  { s with settings := f s.settings }

def State.onRoute (f : RouteCounter → RouteCounter) (s : State) : State :=
  { s with route := f s.route }

def State.onMotion (f : MotionGenerator → MotionGenerator) (s : State) : State :=
  { s with motion := f s.motion }

def State.onDrive (f : DriveUnit → DriveUnit) (s : State) : State :=
  { s with drive := f s.drive }

def State.onTurntable (f : Turntable → Turntable) (s : State) : State :=
  { s with tt := f s.tt }

def State.onSeats (f : SeatMonitor → SeatMonitor) (s : State) : State :=
  { s with seats := f s.seats }

def State.onPermit (f : Permit → Permit) (s : State) : State :=
  { s with permit := f s.permit }

def State.onCues (f : CueEngine → CueEngine) (s : State) : State :=
  { s with cues := f s.cues }

def State.onEffects (f : EffectBank → EffectBank) (s : State) : State :=
  { s with effects := f s.effects }

def State.onSound (f : SoundUnit → SoundUnit) (s : State) : State :=
  { s with sound := f s.sound }

/-- The input lines take new levels (log 9). -/
def State.withPins (pins : Pins) (s : State) : State :=
  { s with pins := pins }

/-- The model's counter of free values moves on by `n` (log 7). -/
def State.spendFree (n : Nat) (s : State) : State :=
  { s with freeCount := s.freeCount + n }

/-- The record of seat `i`. -/
def State.seat (s : State) (i : Fin 8) : Seat := s.seats.seat[i]

def State.setSeat (i : Fin 8) (x : Seat) (s : State) : State :=
  s.onSeats fun m => { m with seat := m.seat.set i x }

/-- The record of effect channel `c`. -/
def State.channel (s : State) (c : Fin 12) : Channel := s.effects.channel[c]

def State.setChannel (c : Fin 12) (x : Channel) (s : State) : State :=
  s.onEffects fun b => { b with channel := b.channel.set c x }

/-- The record of voice `v`. -/
def State.voice (s : State) (v : Fin 6) : Voice := s.sound.voice[v]

def State.setVoice (v : Fin 6) (x : Voice) (s : State) : State :=
  s.onSound fun u => { u with voice := u.voice.set v x }

/-- The cue in slot `i`, absent for an empty slot. -/
def State.slot (s : State) (i : Fin 64) : Option Cue := s.cues.slots[i]

def State.setSlot (i : Fin 64) (x : Option Cue) (s : State) : State :=
  s.onCues fun e => { e with slots := e.slots.set i x }

/-- The indexes of the fixed sets, in ascending order. -/
def allSeats : List (Fin 8) := [0, 1, 2, 3, 4, 5, 6, 7]
def allChannels : List (Fin 12) := [0, 1, 2, 3, 4, 5, 6, 7, 8, 9, 10, 11]
def allPairs : List (Fin 6) := [0, 1, 2, 3, 4, 5]
def allVoices : List (Fin 6) := [0, 1, 2, 3, 4, 5]
def allZones : List (Fin 4) := [0, 1, 2, 3]
def allAxes : List Axis := [.left, .right, .turntable]
def allSlots : List (Fin 64) := List.finRange 64

end Machine
end Sys2Proof
end

