-- ==== Sys2Proof/Machine/Flags.lean ====
section
/-! DEFINITION. Events, attention lines and refusals of the three ports (R196 to R200), and the entry
of a motion phase (R26). -/

namespace Sys2Proof.Machine

/-- The 29 events in the numbering of R197: an event's flag is its position. -/
inductive Event
  | legDone | queueEmpty | phaseEntered | stopped | motionFault | seekDone | seekFailed
  | markerSeen | markerUnknown | markerMismatch | positionLost | turnDone | homeDone | homeFailed
  | seatChange | seatFault | checkDone | permitGranted | permitLost | consentLow | cueFired
  | cueMissed | cueActionDropped | voiceEnd | mountDone | voiceStarved | effectDone
  | effectConflict | refused
  deriving DecidableEq, Repr

/-- The flag of an event in an event set or mask (R197). -/
def Event.flag (e : Event) : BitVec 32 := BitVec.ofNat 32 (2 ^ e.ctorIdx)

/-- ATTN is asserted while an event of the set is also in the mask (R199). -/
def PortState.rederiveAttn (p : PortState) : PortState :=
  { p with attn := p.events &&& p.mask != 0 }

/-- An event joins a port's set, and ATTN is re-derived (R197, R199). -/
def PortState.latch (e : Event) (p : PortState) : PortState :=
  { p with events := p.events ||| e.flag }.rederiveAttn

/-- A block latches an event: it joins the set of each port (R197). -/
def State.latch (e : Event) (s : State) : State :=
  s.onPorts (·.map (·.latch e))

/-- A refusal on a port (R196): its last refusal is replaced and REFUSED joins its set alone. -/
def State.refuse (p : Port) (r : Reason) (code : Byte) (s : State) : State :=
  s.onPort p fun x => { x with lastRefusal := some ⟨r, code⟩ }.latch .refused

/-- Whether a port's watch set holds a phase (R200, flags in the order of the phases). -/
def PortState.watches (x : PortState) (ph : Phase) : Bool := x.watch.getLsbD ph.ctorIdx

/-- Each port told of a phase entry latches PHASE_ENTERED if it watches that phase (R200). -/
def State.latchEntry (ph : Phase) (s : State) : State :=
  s.onPorts (·.map fun x => if x.watches ph then x.latch .phaseEntered else x)

/-- The motion phase becomes `ph`; a change is an entry, told to the ports (R26). -/
def State.enterPhase (ph : Phase) (s : State) : State :=
  if s.motion.phase = ph then s
  else (s.onMotion fun m => { m with phase := ph }).latchEntry ph

end Sys2Proof.Machine
end

