-- ==== Sys2Proof/Machine/Operands.lean ====
section
/-! DEFINITION. The forms in which argument bytes carry values (R193) and in which responses carry
fields (R207), and the codes of the commands (chapter 11, command summary). -/

namespace Sys2Proof.Machine

/-! ## Argument forms (R193) -/

/-- The value at position `b` of a list of values, none past its end (R193). -/
def nth {α : Type} (values : List α) (b : Byte) : Option α := values[b.toNat]?

def travelOf : Byte → Option Travel := nth [.fwd, .rev]
def yesNoOf : Byte → Option Bool := nth [false, true]
def seekActionOf : Byte → Option SeekAction := nth [.align, .mark]
def markerKindOf : Byte → Option MarkerKind := nth [.correct, .check]
def turnModeOf : Byte → Option TurnMode := nth [.short, .fwd, .rev]
def cueDirectionOf : Byte → Option CueDirection := nth [.fwd, .rev, .any]
def patternModeOf : Byte → Option PatternMode := nth [.steady, .pulse, .burst, .cycle, .dim, .off]
def holdBehaviourOf : Byte → Option HoldBehaviour := nth [.playOn, .pauseOnHold]

/-- A byte as a member of a fixed set of `n` items, none when it is above the last. -/
def finOf (n : Nat) (b : Byte) : Option (Fin n) :=
  if h : b.toNat < n then some ⟨b.toNat, h⟩ else none

/-- A marker id is 1..254 (R9, R20). -/
def markerIdOk (b : Byte) : Bool := 1 ≤ b.toNat && b.toNat ≤ 254

/-- A value limited to a range, both ends included. -/
def clampInt (lo hi x : Int) : Int := max lo (min x hi)
def clampNat (lo hi x : Nat) : Nat := max lo (min x hi)

/-- Steer is clamped to -1023..+1023 (R19). -/
def steerOf (w : BitVec 16) : Int := clampInt (-1023) 1023 w.toInt

/-- One step of a value toward a target, by at most `step` (R176, R182, R183). -/
def approach (step target current : Nat) : Nat :=
  if current ≤ target then min (current + step) target else max (current - step) target

/-! ## Response forms (R207) -/

/-- The `n` bytes of a number, most significant first. -/
def numBytes : (n : Nat) → (x : Nat) → List Byte
  | 0, _ => []
  | n + 1, x => numBytes n (x / 256) ++ [BitVec.ofNat 8 x]

/-- The `n` bytes of a number that may lie below 0, in two's complement. -/
def beBytes (n : Nat) (x : Int) : List Byte := numBytes n (x.emod (256 ^ n)).toNat

/-- A yes or no, on or off, clear or set field. -/
def flagByte (b : Bool) : List Byte := [if b then 1 else 0]

/-- An optional field of `n` bytes: a presence byte, then the value, zeros when absent. -/
def optBytes {α : Type} (n : Nat) (f : α → List Byte) : Option α → List Byte
  | none => 0 :: List.replicate n 0
  | some x => 1 :: f x

/-- A list of varying length: a count byte, then the items. -/
def listBytes {α : Type} (f : α → List Byte) (xs : List α) : List Byte :=
  BitVec.ofNat 8 xs.length :: xs.flatMap f

/-- The number whose bit n is the n-th flag of a list. -/
def maskOf : List Bool → Nat
  | [] => 0
  | b :: bs => (if b then 1 else 0) + 2 * maskOf bs

/-- A response: the command's code, the length of the body in two bytes, the body (R207). -/
def responseOf (code : Byte) (body : List Byte) : List Byte :=
  code :: numBytes 2 body.length ++ body

/-! ## Codes of the commands -/

namespace Code
def nop : Byte := 0x00
def readStatus : Byte := 0x01
def readSetting : Byte := 0x02
def writeSetting : Byte := 0x03
def resetSection : Byte := 0x04
def loadMarker : Byte := 0x10
def deleteMarker : Byte := 0x11
def clearMarkers : Byte := 0x12
def zeroRoute : Byte := 0x13
def readRoute : Byte := 0x14
def readMarker : Byte := 0x15
def readMarkerList : Byte := 0x16
def appendLeg : Byte := 0x20
def appendSeekLeg : Byte := 0x21
def flushLegs : Byte := 0x22
def go : Byte := 0x23
def hold : Byte := 0x24
def releaseHold : Byte := 0x25
def softStop : Byte := 0x26
def hardStop : Byte := 0x27
def clearMotionFault : Byte := 0x28
def readMotion : Byte := 0x29
def readLegs : Byte := 0x2A
def readDrive : Byte := 0x2B
def turnTo : Byte := 0x30
def homeTurntable : Byte := 0x31
def readTurntable : Byte := 0x32
def releaseBars : Byte := 0x38
def clearSeatFault : Byte := 0x39
def readSeats : Byte := 0x3A
def beginCheck : Byte := 0x40
def concur : Byte := 0x41
def renewConsent : Byte := 0x42
def revokeConsent : Byte := 0x43
def readPermit : Byte := 0x44
def loadCue : Byte := 0x50
def deleteCue : Byte := 0x51
def armCues : Byte := 0x52
def disarmCues : Byte := 0x53
def fireCue : Byte := 0x54
def readCueEngine : Byte := 0x55
def readCue : Byte := 0x56
def readCueLog : Byte := 0x57
def setEffect : Byte := 0x60
def clearEffectLockout : Byte := 0x61
def readEffects : Byte := 0x62
def mountClips : Byte := 0x70
def play : Byte := 0x71
def stopVoice : Byte := 0x72
def setVoiceGain : Byte := 0x73
def setZoneLevel : Byte := 0x74
def readSound : Byte := 0x75
def readClipTable : Byte := 0x76
end Code

/-- How many argument bytes follow a command's code, none for a code that names no command (chapter
11, command summary). Load Cue starts with its twelve fixed bytes (R192). -/
def argumentCount (code : Byte) : Option Nat :=
  match code.toNat with
  | 0x00 => some 0 | 0x01 => some 0 | 0x02 => some 1 | 0x03 => some 5 | 0x04 => some 1
  | 0x10 => some 8 | 0x11 => some 1 | 0x12 => some 0 | 0x13 => some 0 | 0x14 => some 0
  | 0x15 => some 1 | 0x16 => some 0
  | 0x20 => some 11 | 0x21 => some 13 | 0x22 => some 0 | 0x23 => some 0 | 0x24 => some 0
  | 0x25 => some 1 | 0x26 => some 0 | 0x27 => some 0 | 0x28 => some 0 | 0x29 => some 0
  | 0x2A => some 0 | 0x2B => some 0
  | 0x30 => some 3 | 0x31 => some 0 | 0x32 => some 0
  | 0x38 => some 1 | 0x39 => some 1 | 0x3A => some 0
  | 0x40 => some 0 | 0x41 => some 3 | 0x42 => some 2 | 0x43 => some 0 | 0x44 => some 0
  | 0x50 => some 12 | 0x51 => some 1 | 0x52 => some 0 | 0x53 => some 0 | 0x54 => some 1
  | 0x55 => some 0 | 0x56 => some 1 | 0x57 => some 0
  | 0x60 => some 9 | 0x61 => some 1 | 0x62 => some 0
  | 0x70 => some 0 | 0x71 => some 8 | 0x72 => some 2 | 0x73 => some 3 | 0x74 => some 3
  | 0x75 => some 0 | 0x76 => some 0
  | _ => none

/-- How many argument bytes an action count of Load Cue calls for (R133). -/
def actionBytes (count : Byte) : Nat :=
  if 1 ≤ count.toNat && count.toNat ≤ 4 then 10 * count.toNat else 0

end Sys2Proof.Machine
end

