-- ==== Sys2Proof/Machine/DriveOps.lean ====
section
/-! DEFINITION. The Drive Pulse Unit's shared operations (chapter 03): plans, the cut, drive enable,
the path advance and the wheel split; and the ramp arithmetic both profiles use. -/

namespace Sys2Proof.Machine

/-! ## Ramps -/

/-- A step of a ramp; past the table's end no step. -/
def rampStepOf {n : Nat} (ramp : Vector RampStep n) (k : Nat) : RampStep :=
  (ramp[k]?).getD ⟨0, 0⟩

/-- The rate and the length of step `k` of the wheel ramp (R23). -/
def Settings.rate (x : Settings) (k : Nat) : Nat := (rampStepOf x.ramp k).rate
def Settings.stepLength (x : Settings) (k : Nat) : Nat := (rampStepOf x.ramp k).length

/-- The rate and the length of step `k` of the turntable ramp (R83). -/
def Settings.turnRate (x : Settings) (k : Nat) : Nat := (rampStepOf x.turntableRamp k).rate
def Settings.turnLength (x : Settings) (k : Nat) : Nat := (rampStepOf x.turntableRamp k).length

/-- The braking sum of step `k`: the total length of the steps below it (R24, R83). -/
def brakingSum (length : Nat → Nat) : Nat → Nat
  | 0 => 0
  | k + 1 => brakingSum length k + length k

/-- B(k) of the wheel ramp (R24) and BT(k) of the turntable ramp (R83). -/
def Settings.braking (x : Settings) (k : Nat) : Nat := brakingSum x.stepLength k
def Settings.turnBraking (x : Settings) (k : Nat) : Nat := brakingSum x.turnLength k

/-- The descent test repeated until it fails (R34, R87 step 3): the step falls while it is above the
exit step and the remaining distance is within the braking distance to it. -/
def descend (braking : Nat → Nat) (rem exit : Nat) : Nat → Nat
  | 0 => 0
  | k + 1 =>
    if exit < k + 1 ∧ rem ≤ braking (k + 1) - braking exit then descend braking rem exit k
    else k + 1

/-- The advance of one tick at `rate` thousandths a tick (R44, R87 step 2): the whole units, limited
to the remaining distance, and the new accumulator, 0 when the limit cut it short. -/
def advanceOf (accumulator rate rem : Nat) : Nat × Nat :=
  let q := (accumulator + rate) / 1000
  if q ≤ rem then (q, (accumulator + rate) % 1000) else (rem, 0)

/-- The left wheel's share of an advance and the new split residual (R45). -/
def splitOf (advance : Nat) (steer : Int) (residual : Nat) : Nat × Nat :=
  let n := advance * (1024 + steer).toNat + residual
  (n / 2048, n % 2048)

/-- A retreat advanced by a tick's advance (R67 step 3, R90): at the full length of its step the step
falls by one with the distance cleared, or comes to rest at step 0. -/
def Retreat.advance (length : Nat → Nat) (advance : Nat) (r : Retreat) : Retreat :=
  let r := { r with ticked := true }
  if r.atRest then r
  else
    let d := r.distance + advance
    if d < length r.h then { r with distance := d }
    else if r.h = 0 then { r with distance := d, atRest := true }
    else { r with h := r.h - 1, distance := 0 }

/-- Whether the outcome of a retreat is due (R67 step 5): at rest after a profile operation. -/
def Retreat.due (r : Retreat) : Bool := r.atRest && r.ticked

/-- A retreat begun from effective step `k` (R66, R90). -/
def Retreat.begun (k : Nat) : Retreat :=
  if k = 0 then { h := 0, distance := 0, atRest := true, ticked := false }
  else { h := k - 1, distance := 0, atRest := false, ticked := false }

/-! ## Plans and the cut -/

/-- Pulses of a plan still to be emitted. -/
def Plan.remaining (p : Plan) : Nat := p.due - p.emitted

/-- A commanded count moved by `n` pulses in a direction (R49), wrapping. -/
def moved (d : Travel) (n : Nat) (x : BitVec 32) : BitVec 32 :=
  match d with
  | .fwd => x + BitVec.ofNat 32 n
  | .rev => x - BitVec.ofNat 32 n

/-- An axis's commanded count moved back by the pulses not emitted, and its plan ended (R49, R57). -/
def DriveUnit.dropPlan (i : Axis) (d : DriveUnit) : DriveUnit :=
  let plan := d.plan.get i
  let back := match d.direction.get i with
    | .fwd => Travel.rev
    | .rev => Travel.fwd
  { d with
    commanded := d.commanded.modify (moved back plan.remaining) i,
    plan := d.plan.set i { plan with due := plan.emitted } }

/-- How many pulses of an axis's plan have begun by now becomes known: a free value of at most the
pulses still due (log 7). -/
def State.establish (s : State) (i : Axis) : State :=
  let plan := s.drive.plan.get i
  if plan.remaining = 0 then s
  else
    let e := min (Config.pulsesEmitted s.freeCount) plan.remaining
    (s.onDrive fun d =>
      { d with plan := d.plan.set i { plan with emitted := plan.emitted + e } }).spendFree 1

/-- The plan of one axis ends at once within the tick (R48, R57). -/
def State.endPlan (i : Axis) (s : State) : State :=
  (s.establish i).onDrive (·.dropPlan i)

/-- What a cut does once the emitted pulses are known (R57). -/
def DriveUnit.cutNow (d : DriveUnit) : DriveUnit :=
  { allAxes.foldl (fun d i => d.dropPlan i) d with
    accumulator := 0, residual := 0, brakeRelease := false }

/-- The cut of the pulse output (R57). -/
def State.cut (s : State) : State :=
  (allAxes.foldl State.establish s).onDrive (·.cutNow)

/-! ## Drive enable -/

/-- The phases that hold drive enable on (R53). -/
def Phase.drives : Phase → Bool
  | .idle => false
  | .faulted => false
  | _ => true

/-- When drive enable is on (R53). -/
def State.driveWanted (s : State) : Bool :=
  s.motion.phase.drives || s.tt.phase != .idle || s.motion.servoLatch

/-- All commanded and measured counts set to 0 (R49, R50). -/
def DriveUnit.zeroed (d : DriveUnit) : DriveUnit :=
  { d with commanded := ⟨0, 0, 0⟩, measured := ⟨0, 0, 0⟩ }

/-- Drive enable changes, and the Seat Monitor is told at that moment (R53). -/
def State.setEnable (on : Bool) (s : State) : State :=
  (s.onDrive fun d => { d with enable := on }).onSeats fun m => { m with driveTold := on }

/-- A fall of drive enable (R53): the output is cut if a plan still has pulses due. -/
def State.driveFall (s : State) : State :=
  let s := allAxes.foldl State.establish s
  let pending := allAxes.any fun i => (s.drive.plan.get i).remaining != 0
  (if pending then s.onDrive (·.cutNow) else s).setEnable false

/-- A rise of drive enable (R53): the counts are zeroed. -/
def State.driveRise (s : State) : State :=
  (s.onDrive (·.zeroed)).setEnable true

/-- Drive enable re-derived (R53), without the reports of R74 that a rise brings. -/
def State.rederive (s : State) : State :=
  if s.driveWanted = s.drive.enable then s
  else if s.driveWanted then s.driveRise
  else s.driveFall

/-- The following error of an axis (R51). -/
def DriveUnit.following (d : DriveUnit) (i : Axis) : Int :=
  (d.commanded.get i - d.measured.get i).toInt

end Sys2Proof.Machine
end

