-- ==== Sys2Proof/Machine/EffectOps.lean ====
section
/-! DEFINITION. The Effect Timer Bank's shared operations (chapter 09). -/

namespace Sys2Proof.Machine

/-- A channel in any state other than OFF and LOCKED_OUT is active (R154). -/
def ChannelState.active : ChannelState → Bool
  | .off => false
  | .lockedOut => false
  | _ => true

/-- A channel stopped without completion: running pattern, timer and bursts absent (R157). -/
def Channel.stopped (st : ChannelState) (x : Channel) : Channel :=
  { x with state := st, running := none, interval := none, bursts := none }

/-- The operation OFF (R157): it acts on an active channel and keeps the armed pattern. -/
def State.effectOff (c : Fin 12) (s : State) : State :=
  if (s.channel c).state.active then s.setChannel c ((s.channel c).stopped .off) else s

/-- The pair of a channel, and the two channels of a pair. -/
def pairOf (c : Fin 12) : Fin 6 := ⟨c.val / 2, by omega⟩
def lowerOf (p : Fin 6) : Fin 12 := ⟨2 * p.val, by omega⟩
def upperOf (p : Fin 6) : Fin 12 := ⟨2 * p.val + 1, by omega⟩

/-- The other channel of a channel's pair. -/
def partnerOf (c : Fin 12) : Fin 12 :=
  if c.val % 2 = 0 then upperOf (pairOf c) else lowerOf (pairOf c)

/-- Whether a pair's flag is set in the exclusive pair mask (R160). -/
def State.exclusive (s : State) (p : Fin 6) : Bool := s.settings.exclusivePairMask.getLsbD p

/-- A channel entering the state of a pattern's mode (R158 step 3). -/
def Channel.begun (pat : Pattern) (x : Channel) : Channel :=
  let timed (st : ChannelState) (n : Option Nat) : Channel :=
    { x with state := st, running := some pat, interval := some pat.onTime, bursts := n }
  let steady (st : ChannelState) : Channel :=
    { x with state := st, running := some pat, interval := none, bursts := none }
  match pat.mode with
  | .steady => steady .steadyOn
  | .pulse => timed .pulseOn none
  | .burst => timed .burstOn (some pat.countOrDuty)
  | .cycle => timed .cycleOn none
  | .dim => steady .dim
  | .off => x.stopped .off

/-- A start of a pattern on a channel (R158): the exclusive partner is forced off first. -/
def State.startPattern (c : Fin 12) (pat : Pattern) (s : State) : State :=
  let s := if s.exclusive (pairOf c) then s.effectOff (partnerOf c) else s
  s.setChannel c ((s.channel c).begun pat)

/-- A completion (R159): the channel turns off, counts, latches EFFECT_DONE, and its link starts the
linked channel's armed pattern unless that channel is LOCKED_OUT or has none. -/
def State.completeEffect (c : Fin 12) (s : State) : State :=
  let x := s.channel c
  let link := x.running.bind (·.link)
  let s := (s.setChannel c
    { x.stopped .off with completions := (x.completions + 1) % 256 }).latch .effectDone
  match link with
  | none => s
  | some l =>
    if h : l < 12 then
      let y := s.channel ⟨l, h⟩
      match y.armed with
      | some pat => if y.state = .lockedOut then s else s.startPattern ⟨l, h⟩ pat
      | none => s
    else s

/-- A channel moved to its next interval (R155). -/
def Channel.toInterval (st : ChannelState) (time : Nat) (x : Channel) : Channel :=
  { x with state := st, interval := some time }

/-- The end of an interval (R155). It is due when the interval timer stands at 0. -/
def State.effectIntervalEnd (c : Fin 12) (s : State) : State :=
  let x := s.channel c
  match x.interval, x.running with
  | some 0, some pat =>
    match x.state with
    | .pulseOn => s.completeEffect c
    | .burstOn =>
      if 1 < x.bursts.getD 1 then
        s.setChannel c { x.toInterval .burstOff pat.offTime with bursts := x.bursts.map (· - 1) }
      else s.completeEffect c
    | .burstOff => s.setChannel c (x.toInterval .burstOn pat.onTime)
    | .cycleOn => s.setChannel c (x.toInterval .cycleOff pat.offTime)
    | .cycleOff => s.setChannel c (x.toInterval .cycleOn pat.onTime)
    | _ => s
  | _, _ => s

/-- Whether both channels of a pair are LOCKED_OUT (R162). -/
def State.lockedOut (p : Fin 6) (s : State) : Bool :=
  (s.channel (lowerOf p)).state = .lockedOut && (s.channel (upperOf p)).state = .lockedOut

/-- A pair's lockout (R161). It is due when the conflict count stands at 5. -/
def State.effectLockout (p : Fin 6) (s : State) : State :=
  if s.effects.conflicts[p] < Config.conflictLimit then s
  else
    let lock (c : Fin 12) (s : State) : State := s.setChannel c ((s.channel c).stopped .lockedOut)
    let s := lock (upperOf p) (lock (lowerOf p) s)
    (s.onEffects fun b => { b with conflicts := b.conflicts.set p 0 }).latch .effectConflict

/-- A pattern tested by tests 2 and 3 of R157. -/
def patternOf (b : PatternBytes) : Option Pattern :=
  match patternModeOf b.mode with
  | none => none
  | some m =>
    let timed := m = .pulse ∨ m = .burst ∨ m = .cycle
    let gapped := m = .burst ∨ m = .cycle
    if timed ∧ b.onTime.toNat = 0 then none
    else if gapped ∧ b.offTime.toNat = 0 then none
    else if m = .burst ∧ b.countOrDuty.toNat = 0 then none
    else if b.link.toNat ≠ 255 ∧ 11 < b.link.toNat then none
    else some
      { mode := m, onTime := b.onTime.toNat, offTime := b.offTime.toNat,
        countOrDuty := b.countOrDuty.toNat,
        link := if b.link.toNat = 255 then none else some b.link.toNat }

/-- START (R157): mode OFF acts as the operation OFF; a LOCKED_OUT channel is not started. -/
def State.startJudged (channel : Byte) (b : PatternBytes) (s : State) : Except Reason State :=
  match finOf 12 channel, patternOf b with
  | some c, some pat =>
    if pat.mode = .off then .ok (s.effectOff c)
    else if (s.channel c).state = .lockedOut then .error .state
    else .ok (s.startPattern c pat)
  | _, _ => .error .range

/-- ARM (R157): the pattern becomes the armed pattern; mode OFF makes it absent. -/
def State.armJudged (channel : Byte) (b : PatternBytes) (s : State) : Except Reason State :=
  match finOf 12 channel, patternOf b with
  | some c, some pat =>
    .ok (s.setChannel c
      { s.channel c with armed := if pat.mode = .off then none else some pat })
  | _, _ => .error .range

/-- OFF (R157); its pattern is not tested. -/
def State.offJudged (channel : Byte) (s : State) : Except Reason State :=
  match finOf 12 channel with
  | some c => .ok (s.effectOff c)
  | none => .error .range

/-- The EFFECT action: an operation other than START and ARM fails test 1 (R157). -/
def State.effectAction (channel operation : Byte) (b : PatternBytes) (s : State) :
    Except Reason State :=
  if operation.toNat = 0 then s.startJudged channel b
  else if operation.toNat = 1 then s.armJudged channel b
  else .error .range

/-- The bank's reaction to a show stop (R163): active safe-off channels turn off. -/
def State.effectShowStop (s : State) : State :=
  allChannels.foldl
    (fun s (c : Fin 12) => if s.settings.safeOffMask.getLsbD c then s.effectOff c else s) s

/-- The bank's part of a SHOW section reset (R166). -/
def State.effectReset (s : State) : State :=
  (allChannels.foldl
    (fun s (c : Fin 12) => s.setChannel c { (s.channel c).stopped .off with armed := none }) s).onEffects
    fun b => { b with conflicts := Vector.replicate 6 0 }

end Sys2Proof.Machine
end

