-- ==== Sys2Proof/Machine/SoundOps.lean ====
section
/-! DEFINITION. The Sound Unit's shared operations (chapter 10): ends and starts of voices, the
judgement of the four sound commands, and the reaction to a show stop. A judgement answers the state
after the command, or the reason of its refusal. -/

namespace Sys2Proof.Machine

/-- The clip table's entry for an id. -/
def SoundUnit.clipOf (u : SoundUnit) (id : Nat) : Option Clip := u.clips.find? (·.id = id)

/-- The entry of the clip a voice plays. -/
def State.clipOn (s : State) (v : Fin 6) : Option Clip := (s.voice v).clip.bind s.sound.clipOf

def ClipFormat.bytesPerSample : ClipFormat → Nat
  | .pcm16 => 2
  | .pcm8u => 1
  | .pcm8s => 1

/-- Voice 5 is the announcement voice (R171). -/
def announcer : Fin 6 := 5

/-- A refill in flight of voice `v` is abandoned: the port is free for the next grant (R180). -/
def State.abandonRefill (v : Fin 6) (s : State) : State :=
  s.onSound fun u =>
    match u.flash with
    | some r => if r.owner = .voice v then { u with flash := none } else u
    | none => u

/-- The fields of a voice at an end with `reason` (R171). -/
def Voice.ended (reason : EndReason) (x : Voice) : Voice :=
  { x with
    state := .idle, clip := none, plays := none, fetchPasses := none, fade := none, fadeDue := false,
    fifo := [], primed := false, starved := false, refillInFlight := false,
    endCount := (x.endCount + 1) % 256,
    lastEnd := match x.clip with
      | some c => some ⟨c, reason⟩
      | none => x.lastEnd }

/-- A voice ends (R171): its record, VOICE_END, and a refill in flight abandoned. -/
def State.endVoice (v : Fin 6) (reason : EndReason) (s : State) : State :=
  ((s.setVoice v ((s.voice v).ended reason)).abandonRefill v).latch .voiceEnd

/-- What a play puts on a voice (R173, after the clamps of R172). -/
structure PlaySpec where
  clip : Nat
  gain : Nat
  fadeIn : Nat
  zones : BitVec 4
  plays : Nat
  hold : HoldBehaviour
  deriving DecidableEq, Repr

/-- The fields of a voice after R173 steps 2 to 5. -/
def Voice.started (heldSeen : Bool) (a : PlaySpec) (x : Voice) : Voice :=
  { x with
    state := if a.hold = .pauseOnHold ∧ heldSeen then .paused else .playing,
    clip := some a.clip, cursor := 0, plays := some a.plays, fetchPosition := 0,
    fetchPasses := some a.plays, fetchDone := false,
    gain := if a.fadeIn = 0 then a.gain else 0, target := a.gain, step := a.fadeIn,
    zones := a.zones, hold := a.hold, fade := none, fadeDue := false, fifo := [], primed := false,
    starved := false, refillInFlight := false }

/-- A taken Play (R173): a voice that is not IDLE is cut first, then the new clip starts. -/
def State.startVoice (v : Fin 6) (a : PlaySpec) (s : State) : State :=
  let s := if (s.voice v).state = .idle then s else s.endVoice v .cut
  s.setVoice v ((s.voice v).started s.sound.heldSeen a)

/-- The clamps of R172: plays 0 becomes 1, voice 5 stores PLAY_ON. -/
def playSpecOf (v : Fin 6) (a : PlayBytes) (hold : HoldBehaviour) : PlaySpec :=
  { clip := a.clip.toNat, gain := a.gain.toNat, fadeIn := a.fadeIn.toNat,
    zones := a.zones.setWidth 4, plays := max 1 a.plays.toNat,
    hold := if v = announcer then .playOn else hold }

/-- Play and the PLAY action, judged by tests 2 to 5 of R172. -/
def State.playJudged (a : PlayBytes) (s : State) : Except Reason State :=
  match finOf 6 a.voice, holdBehaviourOf a.hold, yesNoOf a.cut with
  | some v, some hold, some cut =>
    if 15 < a.zones.toNat then .error .range
    else if s.sound.mount.isSome then .error .busy
    else if (s.sound.clipOf a.clip.toNat).isNone then .error .range
    else if (s.voice v).state ≠ .idle ∧ cut = false then .error .busy
    else .ok (s.startVoice v (playSpecOf v a hold))
  | _, _, _ => .error .range

/-- A voice made FADING_OUT with a step and a reason (R174, R186). -/
def Voice.fading (step : Nat) (reason : FadeReason) (x : Voice) : Voice :=
  { x with target := 0, step := step, state := .fadingOut, fade := some reason }

/-- Stop Voice and the STOP action (R174). -/
def State.stopJudged (voice step : Byte) (s : State) : Except Reason State :=
  match finOf 6 voice with
  | none => .error .range
  | some v =>
    let x := s.voice v
    match x.state with
    | .idle => .ok s
    | .paused => .ok (s.endVoice v .stop)
    | .playing =>
      .ok (if step.toNat = 0 then s.endVoice v .stop else s.setVoice v (x.fading step.toNat .stop))
    | .fadingOut =>
      .ok (if step.toNat = 0 then s.endVoice v .stop
        else s.setVoice v { x with step := step.toNat })

/-- Set Voice Gain and the GAIN action (R175). -/
def State.gainJudged (voice target step : Byte) (s : State) : Except Reason State :=
  match finOf 6 voice with
  | none => .error .range
  | some v =>
    let x := s.voice v
    match x.state with
    | .idle => .error .state
    | .fadingOut => .error .state
    | .playing | .paused =>
      .ok (s.setVoice v
        (if step.toNat = 0 then { x with gain := target.toNat, target := target.toNat }
         else { x with target := target.toNat, step := step.toNat }))

/-- Set Zone Level and the ZONE action (R183). -/
def State.zoneJudged (zone target step : Byte) (s : State) : Except Reason State :=
  match finOf 4 zone with
  | none => .error .range
  | some z =>
    .ok (s.onSound fun u =>
      let l := u.zone[z]
      let l := if step.toNat = 0 then { l with current := target.toNat, target := target.toNat }
        else { l with target := target.toNat, step := step.toNat }
      { u with zone := u.zone.set z l })

/-- The reaction of one of voices 0 to 4 to a show stop (R186). -/
def State.showStopVoice (s : State) (v : Fin 6) : State :=
  let x := s.voice v
  match x.state with
  | .playing => s.setVoice v (x.fading s.settings.faultFadeStep .showStop)
  | .fadingOut =>
    s.setVoice v { x with target := 0, step := max x.step s.settings.faultFadeStep }
  | .paused => s.endVoice v .showStop
  | .idle => s

def ShowCause.index : ShowCause → Fin 4
  | .motionFault => 0
  | .permitLost => 1
  | .positionLost => 2
  | .hardStop => 3

/-- The automatic announcement at a show stop (R187); clip 0 is no clip. -/
def State.announce (cause : ShowCause) (s : State) : State :=
  let clip := s.settings.announcementClips[cause.index]
  let record (o : AnnouncementOutcome) (s : State) : State :=
    s.onSound fun u => { u with lastAnnouncement := some ⟨cause, o⟩ }
  if clip = 0 then record .noClip s
  else if s.sound.mount.isSome then record .mounting s
  else if (s.sound.clipOf clip).isNone then record .notMounted s
  else record .played (s.startVoice announcer
    { clip := clip, gain := s.settings.announcementGain, fadeIn := 0, zones := 15#4, plays := 1,
      hold := .playOn })

/-- The Sound Unit's reaction to a show stop (R186): voices 0 to 4, then the announcement. -/
def State.soundShowStop (cause : ShowCause) (s : State) : State :=
  State.announce cause (([0, 1, 2, 3, 4] : List (Fin 6)).foldl State.showStopVoice s)

/-- A voice at a SHOW section reset (R190): not an end, so the end count and last end are kept. -/
def Voice.silenced (x : Voice) : Voice :=
  if x.state = .idle then x
  else { Voice.powerOn with endCount := x.endCount, lastEnd := x.lastEnd }

/-- The Sound Unit's part of a SHOW section reset (R190). -/
def State.soundReset (s : State) : State :=
  let silence (s : State) (v : Fin 6) : State :=
    (s.setVoice v (s.voice v).silenced).abandonRefill v
  (allVoices.foldl silence s).onSound fun u =>
    { u with duck := 255, zone := Vector.replicate 4 ⟨128, 128, 0⟩ }

end Sys2Proof.Machine
end

