-- ==== Sys2Proof/Machine/Ops.lean ====
section
/-! DEFINITION. The operations in which blocks act on one another: the show stop (R78), the entry and
end of POST (R39), the retreat (R66), the soft stop (R69), the turntable's stop at once (R91), the
loss of the permit (R115), the motion fault (R75, R76), and a rise of drive enable with the reports
it brings (R74). -/

namespace Sys2Proof.Machine

/-! ## The show stop -/

/-- An ARMED cue engine becomes SUPPRESSED on a show stop (R137). -/
def State.cueSuppress (s : State) : State :=
  s.onCues fun e => if e.engine = .armed then { e with engine := .suppressed } else e

/-- The show stop delivered to its three receivers (R78). -/
def State.showStop (cause : ShowCause) (s : State) : State :=
  ((s.cueSuppress).soundShowStop cause).effectShowStop

/-- The phases in which the vehicle moves (R71, R78). -/
def Phase.moves : Phase → Bool
  | .accel | .cruise | .decel | .holding | .stopping => true
  | _ => false

/-! ## Queue, holds and POST -/

def HoldSet.isEmpty (h : HoldSet) : Bool := !h.ride && !h.shows && !h.scene

def noHolds : HoldSet := ⟨false, false, false⟩

/-- A latched exit step becomes 0, an unlatched one stays unlatched (R22, R33). -/
def CurrentLeg.exitZeroed (c : CurrentLeg) : CurrentLeg :=
  { c with exitStep := c.exitStep.map fun _ => 0 }

/-- The pending queue is emptied (R22). -/
def MotionGenerator.flushed (m : MotionGenerator) : MotionGenerator :=
  { m with queue := [], current := m.current.map (·.exitZeroed) }

/-- The queue flushed, the hold reason set emptied and the SCENE timer cleared (R69, R71). -/
def MotionGenerator.programmeDropped (m : MotionGenerator) : MotionGenerator :=
  { m.flushed with holds := noHolds, sceneTimer := none }

/-- The end of POST (R39): brake off, the servo-hold latch takes the setting, IDLE. -/
def State.finishPost (s : State) : State :=
  let s := s.onDrive fun d => { d with brakeRelease := false }
  let s := s.onMotion fun m => { m with servoLatch := s.settings.servoHold, phaseTimer := none }
  (s.enterPhase .idle).rederive

/-- The entry to POST (R39), left at once when the post time is 0 (R25). -/
def State.enterPost (s : State) : State :=
  let s := (s.onMotion fun m =>
    { m with current := none, retreat := none, phaseTimer := some s.settings.postTime }).enterPhase
      .post
  if s.settings.postTime = 0 then s.finishPost else s

/-! ## Retreat and soft stop -/

/-- A retreat begins from the effective step of the current leg (R66), unless one exists; a latched
exit step becomes 0. -/
def MotionGenerator.retreatBegun (m : MotionGenerator) : MotionGenerator :=
  match m.retreat, m.current with
  | none, some c =>
    { m with retreat := some (Retreat.begun (c.kEff.getD c.kLeg)), current := some c.exitZeroed }
  | _, _ => m

/-- A soft stop completes at its entry to POST (R70). -/
def State.stopCompletes (cause : StopCause) (s : State) : State :=
  ((s.onMotion fun m =>
    { m with lastStop := some ⟨.soft, cause⟩, pendingStop := none }).latch .stopped).enterPost

/-- A soft stop (R69), whichever command or loss calls for it. -/
def State.softStop (cause : StopCause) (s : State) : State :=
  match s.motion.phase with
  | .accel | .cruise | .decel | .holding =>
    (s.onMotion fun m =>
      { m.programmeDropped.retreatBegun with pendingStop := some cause }).enterPhase .stopping
  | .pre | .dwell | .held => (s.onMotion (·.programmeDropped)).stopCompletes cause
  | .idle | .post | .stopping | .faulted => s

/-! ## Turntable ends -/

/-- The run in flight ends: TT_IDLE, no run, no timer. -/
def Turntable.runEnded (t : Turntable) : Turntable :=
  { t with phase := .idle, run := none, timer := none }

/-- A turn ends with an outcome (R84, R87, R90, R91). Drive enable is re-derived by the caller. -/
def State.turnEnds (target : Nat) (mode : TurnMode) (o : TurnOutcome) (s : State) : State :=
  (s.onTurntable fun t => { t.runEnded with lastTurn := some ⟨target, mode, o⟩ }).latch .turnDone

/-- A homing run ends with an outcome (R89, R90, R91). -/
def State.homeEnds (o : HomeOutcome) (s : State) : State :=
  (s.onTurntable fun t => { t.runEnded with lastHome := some o }).latch
    (if o = .done then .homeDone else .homeFailed)

/-- The turntable stops at once (R91); outside TT_IDLE the run in flight ends CUT. -/
def State.turntableStop (s : State) : State :=
  if s.tt.phase = .idle then s
  else
    let s := s.endPlan .turntable
    match s.tt.run with
    | some r =>
      match r.kind with
      | .turn target mode => s.turnEnds target mode .cut
      | .home => s.homeEnds .cut
    | none => s.onTurntable (·.runEnded)

/-- Whether every fitted seat is unoccupied (R88, R90). -/
def State.allUnoccupied (s : State) : Bool :=
  allSeats.all fun i => (s.seat i).state = .notFitted || !(s.seat i).occupied

/-- A homing run stopped for want of the permit (R90). -/
def State.homeLosesPermit (s : State) : State :=
  (((s.endPlan .turntable).homeEnds .permit).rederive)

/-- The turntable's answer to a loss of the permit (R90). -/
def State.turntablePermitLoss (s : State) : State :=
  match s.tt.phase, s.tt.run with
  | .turning, some r =>
    s.onTurntable fun t =>
      { t with phase := .stopping,
               run := some { r with retreat := some (Retreat.begun (r.kEff.getD r.k)) } }
  | .pre, some r =>
    match r.kind with
    | .turn target mode => (s.turnEnds target mode .stopped).rederive
    | .home => if s.allUnoccupied then s else s.homeLosesPermit
  | .homing, some _ => if s.allUnoccupied then s else s.homeLosesPermit
  | _, _ => s

/-! ## Loss of the permit -/

/-- The Motion Generator's answer to a loss of the permit (R72). -/
def State.motionPermitLoss (s : State) : State :=
  match s.motion.phase with
  | .accel | .cruise | .decel | .holding | .pre | .held =>
    (s.softStop .permitLost).showStop .permitLost
  | .dwell => s.softStop .permitLost
  | .stopping | .idle | .post | .faulted => s

/-- The record after a loss (R115 steps 1 to 3). -/
def Permit.dropped (cause : LossCause) (p : Permit) : Permit :=
  { p with state := .noPermit, concurRemaining := none, consentRemaining := none,
           periodWindow := none, lowGiven := none, lastLoss := cause }

/-- A loss of the permit (R115); in NO_PERMIT nothing happens. -/
def State.permitLoss (cause : LossCause) (s : State) : State :=
  if s.permit.state = .noPermit then s
  else
    (((s.onPermit (·.dropped cause)).latch .permitLost).motionPermitLoss).turntablePermitLoss

/-! ## Hard stops and motion faults -/

/-- What a hard stop, a first fault and a MOTION reset share (R71, R75, R79): the cut, the turntable
stopped, the latch off, and leg, retreat, queue, holds, timers and pending stop cause gone. -/
def State.stopAll (s : State) : State :=
  ((s.cut).turntableStop).onMotion fun m =>
    { m.programmeDropped with
      servoLatch := false, current := none, retreat := none, phaseTimer := none,
      pendingStop := none }

/-- A hard stop taken outside FAULTED, with the cause it records (R71, R79). -/
def State.hardStop (cause : StopCause) (s : State) : State :=
  let moving := s.motion.phase.moves
  let s := (s.stopAll).enterPhase .idle
  let s := (s.onMotion fun m => { m with lastStop := some ⟨.hard, cause⟩ }).latch .stopped
  let s := s.rederive
  if moving then s.showStop .hardStop else s

/-- A first fault (R75). -/
def State.firstFault (cause : FaultCause) (s : State) : State :=
  let record : FaultRecord :=
    ⟨cause, s.route.position, s.motion.current.map (·.leg.tag)⟩
  let s := (s.stopAll).onMotion fun m => { m with fault := some record }
  let s := (s.enterPhase .faulted).latch .motionFault
  ((s.rederive).permitLoss .motionFault).showStop .motionFault

/-- A second fault (R76). -/
def State.secondFault (s : State) : State :=
  (((s.onMotion fun m => { m with extraFaults := min 255 (m.extraFaults + 1) }).cut).turntableStop
    ).rederive

/-- A fault report (R74): the first outside FAULTED, a later one a second fault. -/
def State.report (cause : FaultCause) (s : State) : State :=
  if s.motion.phase = .faulted then s.secondFault else s.firstFault cause

def encoderCause : Axis → FaultCause
  | .left => .encoderLeft
  | .right => .encoderRight
  | .turntable => .encoderTurntable

def followCause : Axis → FaultCause
  | .left => .followLeft
  | .right => .followRight
  | .turntable => .followTurntable

def alarmCause : Axis → FaultCause
  | .left => .alarmLeft
  | .right => .alarmRight
  | .turntable => .alarmTurntable

/-- Every encoder condition still latched is reported, in the order left, right, turntable (R74,
log 12). -/
def State.reportConditions (s : State) : State :=
  allAxes.foldl
    (fun t i => if s.route.conditions.get i then t.report (encoderCause i) else t) s

/-- Drive enable re-derived where it may rise (R53): a rise acts on the encoder conditions still
latched (R74). -/
def State.rederiveReporting (s : State) : State :=
  let t := s.rederive
  if !s.drive.enable && t.drive.enable then t.reportConditions else t

/-- The encoders of a list whose condition is not latched and whose count is at the limit (R2). -/
def State.overErrorLimit (axes : List Axis) (s : State) : List Axis :=
  axes.filter fun i =>
    !s.route.conditions.get i && decide (s.settings.encoderErrorLimit ≤ s.route.errors.get i)

/-- The encoders of a list are tested at once (R2, R18): each condition that is newly due is latched,
and each one so latched while drive enable is on is a report (R74). DESIGN CHOICE: their order is left,
right, turntable (log 12). -/
def State.testEncoders (axes : List Axis) (s : State) : State :=
  let due := s.overErrorLimit axes
  let t := s.onRoute fun r =>
    { r with conditions := due.foldl (fun c i => c.set i true) r.conditions }
  if s.drive.enable then due.foldl (fun t i => t.report (encoderCause i)) t else t

end Sys2Proof.Machine
end

