-- ==== Sys2Proof/Machine/TurntableOps.lean ====
section
/-! DEFINITION. The Turntable Axis's operations (chapter 05). -/

namespace Sys2Proof.Machine

/-- The direction and length of a turn from position `p` to target `t` (R85). -/
def turnDistance (m p t : Nat) : TurnMode → Travel × Nat
  | .short =>
    let f := ((t : Int) - p).emod m |>.toNat
    if f ≤ m / 2 then (.fwd, f) else (.rev, m - f)
  | .fwd => (.fwd, ((t : Int) - p).emod m |>.toNat)
  | .rev => (.rev, (m - (((t : Int) - p).emod m |>.toNat)) % m)

/-- A run at its start (R87, R88): step 0, nothing run, no retreat. -/
def Run.fresh (kind : RunKind) (dir : Travel) (rem : Nat) : Run :=
  { kind := kind, direction := dir, rem := rem, k := 0, kEff := none, stepDistance := 0,
    accumulator := 0, retreat := none }

/-- A turn starts in TT_TURNING, or completes at once when its distance is 0 (R84, R86, R87). Drive
enable is re-derived by the caller. -/
def State.beginTurn (target : Nat) (mode : TurnMode) (s : State) : State :=
  let (dir, rem) := turnDistance s.settings.countsPerRevolution s.tt.position target mode
  if rem = 0 then s.turnEnds target mode .done
  else s.onTurntable fun t =>
    { t with phase := .turning, timer := none, run := some (.fresh (.turn target mode) dir rem) }

/-- The end of TT_PRE (R86), due when its timer stands at 0. -/
def State.ttPreEnd (s : State) : State :=
  if s.tt.phase = .pre ∧ s.tt.timer = some 0 then
    match s.tt.run with
    | some r =>
      match r.kind with
      | .turn target mode => (s.beginTurn target mode).rederive
      | .home => s.onTurntable fun t => { t with phase := .homing, timer := none }
    | none => s
  else s

/-- The entry to TT_PRE (R86): the timer is loaded, drive enable rises, and the encoder conditions
still latched are reported. A pre time of 0 ends it at its entry. -/
def State.enterTurnPre (r : Run) (s : State) : State :=
  let s := s.onTurntable fun t =>
    { t with phase := .pre, timer := some s.settings.preTime, run := some r }
  s.rederiveReporting.ttPreEnd

/-- Turn To and the TURN action (R84), without the test of rights. -/
def State.turnJudged (target : BitVec 16) (mode : Byte) (s : State) : Except Reason State :=
  match turnModeOf mode with
  | none => .error .range
  | some md =>
    if s.settings.countsPerRevolution ≤ target.toNat then .error .range
    else if !s.tt.homed then .error .state
    else if s.motion.phase = .faulted then .error .state
    else if s.permit.state ≠ .granted then .error .state
    else if s.tt.phase ≠ .idle then .error .busy
    else
      let (dir, rem) :=
        turnDistance s.settings.countsPerRevolution s.tt.position target.toNat md
      if rem = 0 ∨ s.drive.enable then .ok (s.beginTurn target.toNat md)
      else .ok (s.enterTurnPre (.fresh (.turn target.toNat md) dir rem))

/-- Home Turntable (R88). -/
def State.homeJudged (s : State) : Except Reason State :=
  if allSeats.any fun i => (s.seat i).state = .releasing then .error .state
  else if s.permit.state ≠ .granted ∧ !s.allUnoccupied then .error .state
  else if s.tt.phase ≠ .idle then .error .busy
  else
    let s := s.onTurntable fun t => { t with homed := false }
    let r := Run.fresh .home .fwd (3 * s.settings.countsPerRevolution / 2)
    if s.drive.enable then
      .ok (s.onTurntable fun t => { t with phase := .homing, run := some r })
    else .ok (s.enterTurnPre r)

/-- The turntable's plan, count and direction of a tick (R48, R49). -/
def DriveUnit.turnPlanned (n : Nat) (dir : Travel) (d : DriveUnit) : DriveUnit :=
  { d with
    plan := { d.plan with turntable := .of n },
    direction := { d.direction with turntable := dir },
    commanded := { d.commanded with turntable := moved dir n d.commanded.turntable } }

/-- The distances of a run after an advance (R87 step 2). -/
def Run.advanced (r : Run) (k adv acc : Nat) : Run :=
  { r with accumulator := acc, rem := r.rem - adv, stepDistance := r.stepDistance + adv,
           kEff := some k }

/-- The descent and rise tests of a turn (R87 steps 3 and 4). -/
def Run.stepMoved (x : Settings) (r : Run) : Run :=
  let low := descend x.turnBraking r.rem 0 r.k
  if low < r.k then { r with k := low, stepDistance := 0 }
  else if r.retreat.isNone ∧ r.k < 3 ∧ x.turnLength r.k ≤ r.stepDistance
      ∧ x.turnBraking (r.k + 1) < r.rem then
    { r with k := r.k + 1, stepDistance := 0 }
  else r

/-- The effective step of a turn and its rate (R87 step 1). -/
def Run.effectiveStep (r : Run) : Nat :=
  match r.retreat with
  | none => r.k
  | some x => min r.k x.h

def Run.rate (x : Settings) (r : Run) : Nat :=
  if r.retreat.any (·.atRest) then 0 else x.turnRate r.effectiveStep

/-- One tick of a turn (R87 steps 1 to 5). -/
def State.turnTickOf (r : Run) (s : State) : State :=
  let k := r.effectiveStep
  let (adv, acc) := advanceOf r.accumulator (r.rate s.settings) r.rem
  let r := (r.advanced k adv acc).stepMoved s.settings
  let r := { r with retreat := r.retreat.map (·.advance s.settings.turnLength adv) }
  (s.onDrive (·.turnPlanned adv r.direction)).onTurntable fun t => { t with run := some r }

/-- One tick of a homing run (R89): step 0's rate, no ramp. -/
def State.homeTickOf (r : Run) (s : State) : State :=
  let (adv, acc) := advanceOf r.accumulator (s.settings.turnRate 0) r.rem
  (s.onDrive (·.turnPlanned adv .fwd)).onTurntable fun t =>
    { t with run := some (r.advanced 0 adv acc) }

/-- The turntable's part of a motion tick: an advance while it turns or homes, else no pulses. -/
def State.turntableTick (s : State) : State :=
  match s.tt.phase, s.tt.run with
  | .turning, some r => s.turnTickOf r
  | .stopping, some r => s.turnTickOf r
  | .homing, some r => s.homeTickOf r
  | _, _ => s.onDrive fun d => { d with plan := { d.plan with turntable := .of 0 } }

/-- The end of a turn (R87 step 6), due when its Rem is 0. -/
def State.turnEnd (s : State) : State :=
  match s.tt.phase, s.tt.run with
  | .turning, some r | .stopping, some r =>
    match r.kind with
    | .turn target mode => if r.rem = 0 then (s.turnEnds target mode .done).rederive else s
    | .home => s
  | _, _ => s

/-- A turn's retreat at rest with Rem above 0 (R87 step 7, R90). -/
def State.turnRetreatAtRest (s : State) : State :=
  match s.tt.phase, s.tt.run with
  | .turning, some r | .stopping, some r =>
    match r.kind with
    | .turn target mode =>
      if 0 < r.rem ∧ r.retreat.any (·.due) then (s.turnEnds target mode .stopped).rederive
      else s
    | .home => s
  | _, _ => s

/-- A homing run at its limit (R89), due when its Rem is 0: the pulses stop, homed stays no. -/
def State.homingLimit (s : State) : State :=
  match s.tt.phase, s.tt.run with
  | .homing, some r =>
    if r.rem = 0 then ((s.endPlan .turntable).homeEnds .limit).rederive else s
  | _, _ => s

/-- An index event (R3, R89): in TT_HOMING the run ends homed at position 0, and the counts of this
tick up to here are set aside (R82). -/
def State.indexEvent (s : State) : State :=
  match s.tt.phase with
  | .homing =>
    let s := s.endPlan .turntable
    let s := s.onTurntable fun t =>
      { t with position := 0, homed := true, indexPart := s.route.delta.turntable }
    (s.homeEnds .done).rederive
  | _ => s

/-- The turntable position takes a tick's delta, less the part before an index (R82). -/
def State.turntableClose (delta : Int) (s : State) : State :=
  s.onTurntable fun t =>
    { t with position := ((t.position + (delta - t.indexPart)).emod s.settings.countsPerRevolution).toNat,
             indexPart := 0 }

/-- A seat's occupancy told to the axis (R101, R90): a rider sitting down stops a homing run that
goes on without the permit (log 27). -/
def State.occupancyTold (occupied : Bool) (s : State) : State :=
  let homing := (s.tt.phase = .pre || s.tt.phase = .homing)
    && s.tt.run.any (fun r => r.kind = .home)
  if occupied && homing && s.permit.state != .granted then s.homeLosesPermit else s

end Sys2Proof.Machine
end

