-- ==== Sys2Proof/Machine/SeatOps.lean ====
section
/-! DEFINITION. The Seat Monitor's operations (chapter 06). What happens to a seat's record is a pure
change of the record; `State.seatUpdate` then makes the seat change of R104. -/

namespace Sys2Proof.Machine

/-! ## The record -/

/-- The decoding of a lock pair (R95). -/
def rawPair : Bool → Bool → PairReading
  | true, false => .locked
  | false, true => .unlocked
  | true, true => .disagreement
  | false, false => .disagreement

/-- The raw reading of a seat's lock pair as the lines stand (R95). -/
def State.rawReading (s : State) (i : Fin 8) : PairReading :=
  rawPair (s.pins.lka.getLsbD i) (s.pins.lkb.getLsbD i)

/-- The pair filter takes a sample (R96). -/
def Seat.pairCounted (r : PairReading) (x : Seat) : Seat :=
  if r = x.filtered then { x with candidate := none, pairCount := 0 }
  else if x.candidate = some r then { x with pairCount := min 255 (x.pairCount + 1) }
  else { x with candidate := some r, pairCount := 1 }

/-- The occupancy filter takes a sample (R97). -/
def Seat.occupancyCounted (closed : Bool) (x : Seat) : Seat :=
  if closed = x.occupied then { x with occupancyCount := 0 }
  else { x with occupancyCount := min 255 (x.occupancyCount + 1) }

/-- One seat's samples of a tick, and the rise of the release elapsed (R96, R97, R108, R109). -/
def Seat.sampled (x : Settings) (r : PairReading) (closed : Bool) (seat : Seat) : Seat :=
  let seat := (seat.pairCounted r).occupancyCounted closed
  { seat with
    pairDue := seat.candidate.isSome && decide (x.pairFilterTime ≤ seat.pairCount),
    occupancyDue := closed != seat.occupied && decide (x.occupancyFilterTime ≤ seat.occupancyCount),
    elapsed := if seat.state = .releasing then seat.elapsed.map (· + 1) else seat.elapsed }

/-- Entry into FAULT (R103); a seat in FAULT keeps its first cause. -/
def Seat.faulted (c : SeatFaultCause) (x : Seat) : Seat :=
  if x.state = .fault then x
  else
    let x := if x.state = .releasing then { x with solenoid := .off, elapsed := none } else x
    { x with state := .fault, cause := some c, confirmBar := none, confirmGeneration := none }

/-- A release completes (R109). -/
def Seat.released (x : Seat) : Seat :=
  { x with state := .isOpen, bar := 0, solenoid := .off, elapsed := none }

/-- The effect of a filtered pair change by state and new reading (R100). -/
def Seat.pairChanged (r : PairReading) (x : Seat) : Seat :=
  match x.state, r with
  | .isOpen, .locked => { x with state := .locked }
  | .isOpen, .disagreement => x.faulted .pairDisagree
  | .locked, .unlocked => { x with state := .isOpen }
  | .locked, .disagreement => x.faulted .pairDisagree
  | .confirmed, .unlocked => x.faulted .lockLost
  | .confirmed, .disagreement => x.faulted .pairDisagree
  | .releasing, .unlocked => x.released
  | _, _ => x

/-- The filtered reading becomes the candidate (R96). -/
def Seat.pairAccepted (r : PairReading) (x : Seat) : Seat :=
  Seat.pairChanged r { x with filtered := r, candidate := none, pairCount := 0, pairDue := false }

/-- The seat returned to LOCKED without its confirm fields (R101, R105). -/
def Seat.unconfirmed (x : Seat) : Seat :=
  { x with state := .locked, confirmBar := none, confirmGeneration := none }

/-- The occupied field takes the sample (R97, R101). -/
def Seat.occupancyAccepted (x : Seat) : Seat :=
  let x := { x with occupied := !x.occupied, occupancyCount := 0, occupancyDue := false }
  if x.state = .confirmed then x.unconfirmed else x

/-- The release timeout (R109). -/
def Seat.timedOut (x : Seat) : Seat := x.faulted .releaseTimeout

/-- The bar position moved by one, saturating (R98), and the test of a CONFIRMED seat (R102). -/
def Seat.barMoved (slack : Nat) (lowering : Bool) (x : Seat) : Seat :=
  let bar := if lowering then min 255 (x.bar + 1) else x.bar - 1
  if bar = x.bar then x
  else
    let x := { x with bar := bar }
    if x.state = .confirmed ∧ x.confirmBar.any (bar + slack < ·) then x.faulted .barSensor else x

/-- Entry into RELEASING (R107 step 2), with the settings read at it (R108, R109). -/
def Seat.releasing (set : Settings) (x : Seat) : Seat :=
  { x with state := .releasing, confirmBar := none, confirmGeneration := none, elapsed := some 0,
           solenoid := .pullIn, pullInTime := set.pullInTime, holdLevel := set.holdLevel,
           timeout := set.releaseTimeout }

/-- Clear Seat Fault on a seat in FAULT, by its filtered reading (R111). -/
def Seat.cleared (x : Seat) : Seat :=
  if x.state ≠ .fault then x
  else
    match x.filtered with
    | .unlocked => { x with state := .isOpen, cause := none }
    | .locked => { x with state := .locked, cause := none }
    | .disagreement => x

/-- The check result recorded, and what it does (R105). -/
def Seat.checked (r : CheckResult) (g : Nat) (x : Seat) : Seat :=
  let x := { x with lastResult := some r }
  match x.state, r with
  | .locked, .pass | .confirmed, .pass =>
    { x with state := .confirmed, confirmBar := some x.bar, confirmGeneration := some g }
  | .confirmed, .short => x.unconfirmed
  | _, _ => x

/-- A seat whose fitted standing changes (R94): the given state, everything but the change count at
its fixed value. -/
def Seat.refitted (st : SeatState) (x : Seat) : Seat :=
  { Seat.powerOn with state := st, changes := x.changes, pullInTime := x.pullInTime,
                      holdLevel := x.holdLevel, timeout := x.timeout }

/-! ## The seat change -/

/-- A seat's record becomes `y`; a change of its state or of its occupied field is a seat change (R104),
told to the Permit Unit when the state changed (R126). -/
def State.seatUpdate (i : Fin 8) (y : Seat) (s : State) : State :=
  let x := s.seat i
  if y.state = x.state ∧ y.occupied = x.occupied then s.setSeat i y
  else
    let s := (s.setSeat i { y with changes := (x.changes + 1) % 256 }).latch .seatChange
    let s := if y.state = .fault ∧ x.state ≠ .fault then s.latch .seatFault else s
    if x.state = .confirmed ∧ y.state ≠ .confirmed then s.permitLoss .seatChanged else s

/-- Whether a seat is fitted (R94). -/
def State.fitted (s : State) (i : Fin 8) : Bool := (s.seat i).state != .notFitted

/-! ## Events of a seat -/

/-- The samples of a motion tick (R95 to R97, R109); a NOT_FITTED seat is not sampled (R94). -/
def State.sampleSeat (s : State) (i : Fin 8) : State :=
  if s.fitted i then
    s.setSeat i ((s.seat i).sampled s.settings (s.rawReading i) (s.pins.occupancy.getLsbD i))
  else s

/-- The pair filter's acceptance (R96, R100), due after the sample that brought it to its time. -/
def State.pairAccept (i : Fin 8) (s : State) : State :=
  match (s.seat i).pairDue, (s.seat i).candidate with
  | true, some r => if s.fitted i then s.seatUpdate i ((s.seat i).pairAccepted r) else s
  | _, _ => s

/-- The occupancy change (R97, R101), due likewise; the Turntable Axis is told. -/
def State.occupancyChange (i : Fin 8) (s : State) : State :=
  if s.fitted i ∧ (s.seat i).occupancyDue then
    let y := (s.seat i).occupancyAccepted
    (s.seatUpdate i y).occupancyTold y.occupied
  else s

/-- The end of the pull-in (R108), due when the release elapsed has reached the pull-in time. -/
def State.pullInEnd (i : Fin 8) (s : State) : State :=
  let x := s.seat i
  if x.state = .releasing ∧ x.solenoid = .pullIn ∧ x.elapsed.any (x.pullInTime ≤ ·) then
    s.setSeat i { x with solenoid := .hold }
  else s

/-- The release timeout (R109), due when the release elapsed has reached it. -/
def State.releaseTimedOut (i : Fin 8) (s : State) : State :=
  let x := s.seat i
  if x.state = .releasing ∧ x.elapsed.any (x.timeout ≤ ·) then s.seatUpdate i x.timedOut else s

/-- The ends of one seat's tick operation in the order of R99. -/
def State.seatEnds (s : State) (i : Fin 8) : State :=
  (((s.pairAccept i).occupancyChange i).pullInEnd i).releaseTimedOut i

/-- A rising edge of a fitted seat's bar clock (R98, R102). -/
def State.barEdge (i : Fin 8) (lowering : Bool) (s : State) : State :=
  if s.fitted i then s.seatUpdate i ((s.seat i).barMoved s.settings.barSlack lowering) else s

/-! ## Commands -/

/-- The drop request (R54): the answer "off" is the state after the fall; none is "cannot". -/
def State.dropRequest (s : State) : Option State :=
  if s.motion.phase = .idle ∧ s.tt.phase = .idle then
    some (s.onMotion fun m => { m with servoLatch := false }).rederive
  else none

/-- A masked seat enters RELEASING if it is LOCKED or CONFIRMED (R107). -/
def State.releaseSeat (mask : BitVec 8) (s : State) (i : Fin 8) : State :=
  let x := s.seat i
  if mask.getLsbD i ∧ (x.state = .locked ∨ x.state = .confirmed) then
    s.seatUpdate i (x.releasing s.settings)
  else s

/-- Release Bars (R106, R107). -/
def State.releaseJudged (mask : BitVec 8) (s : State) : Except Reason State :=
  match s.dropRequest with
  | none => .error .state
  | some t => .ok (allSeats.foldl (State.releaseSeat mask) (t.permitLoss .release))

/-- Clear Seat Fault (R111). -/
def State.clearSeats (mask : BitVec 8) (s : State) : State :=
  allSeats.foldl
    (fun s (i : Fin 8) => if mask.getLsbD i then s.seatUpdate i (s.seat i).cleared else s) s

/-- A write of the fitted seat count changes the seats whose standing changes (R94). -/
def State.refit (count : Nat) (s : State) : State :=
  let one (s : State) (i : Fin 8) : State :=
    if i.val < count then
      if s.fitted i then s else s.seatUpdate i ((s.seat i).refitted .isOpen)
    else
      if s.fitted i then s.seatUpdate i ((s.seat i).refitted .notFitted) else s
  allSeats.foldl one (s.onSettings fun x => { x with fittedSeatCount := count })

/-- A release solenoid's output within a motion tick (R108), in sixteenths of the tick from its start:
held off while drive enable is on as last told. -/
def State.solenoidSixteenths (s : State) (i : Fin 8) : Nat :=
  if s.seats.driveTold then 0
  else
    match (s.seat i).solenoid with
    | .off => 0
    | .pullIn => 16
    | .hold => (s.seat i).holdLevel

end Sys2Proof.Machine
end

