-- ==== Sys2Proof/Machine/Slots.lean ====
section
/-! DEFINITION. What every command and every event has in common: the end of a port's byte slot and
the beginning of the next (R191, R192, R194), the refusals (R196, R201), and RESET, under which
nothing happens (R205). -/

namespace Sys2Proof.Machine

/-- What a step of this part answers. -/
abbrev Result := Host.Outcome State Fault Refusal

/-- The framer after a command has been taken: back in AWAIT_CODE with nothing in progress (R192). A
port outside a frame stays there (log 1). -/
def PortState.commandFramed (x : PortState) : PortState :=
  match x.framer with
  | .awaitCode | .arguments => { x with framer := .awaitCode, inProgress := none }
  | .deselected | .void => x

/-- A byte slot begins: the byte to send is the next of the response buffer, or 00h when the buffer is
empty; a buffer whose last byte has been sent becomes empty (R191, R194). -/
def PortState.slotBegun (x : PortState) : PortState :=
  match x.framer, x.response with
  | .deselected, _ => x
  | _, none => { x with sdo := 0 }
  | _, some r =>
    match r.bytes[r.index]? with
    | some b => { x with sdo := b, response := some { r with index := r.index + 1 } }
    | none => { x with sdo := 0, response := none }

/-- A command is taken on port `p` at the end of the slot with its last byte, and the next slot
begins. Under RESET nothing happens. -/
def commandTaken (p : Port) (effect : State → State) (s : State) : Result :=
  .next (if s.inReset then s
    else (effect (s.onPort p (·.commandFramed))).onPort p (·.slotBegun))

/-- An event of a line, a clock or a timer. Under RESET nothing happens. -/
def eventTaken (effect : State → State) (s : State) : Result :=
  .next (if s.inReset then s else effect s)

/-- A command judged by its owning block: the state it answers, or a refusal recorded on the port. -/
def State.judged (p : Port) (code : Byte) (judge : State → Except Reason State) (s : State) : State :=
  match judge s with
  | .ok t => t
  | .error r => s.refuse p r code

/-- The rights test, made before any other (R201). -/
def State.allowed (ports : List Port) (p : Port) (code : Byte) (effect : State → State) (s : State) :
    State :=
  if p ∈ ports then effect s else s.refuse p .rights code

/-- A read command's response placed in the port's buffer (R194). -/
def State.respond (p : Port) (code : Byte) (body : List Byte) (s : State) : State :=
  s.onPort p fun x => { x with response := some ⟨responseOf code body, 0⟩ }

end Sys2Proof.Machine
end

