-- ==== Sys2Proof/Machine/PermitOps.lean ====
section
/-! DEFINITION. The Permit Unit's operations (chapter 07). Its losses are `State.permitLoss`. -/

namespace Sys2Proof.Machine

/-- The judgement of one seat (R118); a NOT_FITTED seat is not judged. -/
def Seat.judged (set : Settings) (x : Seat) : Option CheckResult :=
  match x.state with
  | .notFitted => none
  | .fault => some .fault
  | .isOpen | .releasing => some .notLocked
  | .locked | .confirmed =>
    let least := if x.occupied then set.occupiedMinimum else set.emptyMinimum
    if x.bar < least then some .short else some .pass

/-- The check generation raised by a Begin Check (R116). -/
def nextGeneration (g : Nat) : Nat := if g = 65535 then 1 else g + 1

/-- The mask of the seats below a count (R117). -/
def maskBelow (count : Nat) : BitVec 8 := BitVec.ofNat 8 (2 ^ count - 1)

/-- The results of all seats as they stand (R118). -/
def State.checkResults (s : State) : Vector (Option CheckResult) 8 :=
  allSeats.foldl (fun v (i : Fin 8) => v.set i ((s.seat i).judged s.settings))
    (Vector.replicate 8 none)

/-- The seats of a result table judged PASS (R118). -/
def passMaskOf (v : Vector (Option CheckResult) 8) : BitVec 8 :=
  BitVec.ofNat 8 (maskOf (v.toList.map (· = some .pass)))

/-- Whether every judged seat passed (R119). -/
def allPassed (v : Vector (Option CheckResult) 8) : Bool :=
  v.toList.all fun r => r.isNone || r = some .pass

/-- The Permit Unit hands one seat its result (R105, R119 step 1). -/
def State.handResult (v : Vector (Option CheckResult) 8) (g : Nat) (s : State) (i : Fin 8) : State :=
  match v[i] with
  | none => s
  | some r => s.seatUpdate i ((s.seat i).checked r g)

/-- The outcome of a check (R119 step 3). -/
def Permit.outcome (window : Nat) (v : Vector (Option CheckResult) 8) (p : Permit) : Permit :=
  if allPassed v then { p with state := .awaitingConcur, concurRemaining := some window }
  else { p with lastLoss := .checkFailed }

/-- A taken Begin Check (R117 to R119). -/
def State.check (s : State) : State :=
  let s := s.permitLoss .newCheck
  let g := nextGeneration s.permit.generation
  let v := s.checkResults
  let s := s.onPermit fun p =>
    { p with generation := g, fittedMask := maskBelow s.settings.fittedSeatCount,
             results := v, passMask := passMaskOf v }
  let s := (allSeats.foldl (State.handResult v g) s).latch .checkDone
  s.onPermit (·.outcome s.settings.concurWindow v)

/-- Begin Check (R117). -/
def State.checkJudged (s : State) : Except Reason State :=
  if s.motion.phase ≠ .idle ∨ s.tt.phase ≠ .idle then .error .state else .ok s.check

/-- Consent remaining and the period window loaded (R120, R123). -/
def Permit.consentLoaded (window : Nat) (p : Permit) : Permit :=
  { p with consentRemaining := some window, periodWindow := some window, lowGiven := some false }

/-- Concur (R120): line 2 of its table both refuses and ends the permit. -/
def State.concurOp (p : Port) (generation : BitVec 16) (mask : BitVec 8) (s : State) : State :=
  if s.permit.state ≠ .awaitingConcur ∨ generation.toNat ≠ s.permit.generation then
    s.refuse p .stale Code.concur
  else if mask ≠ s.permit.fittedMask then
    (s.refuse p .range Code.concur).permitLoss .concurMismatch
  else
    (s.onPermit fun x =>
      { x.consentLoaded s.settings.consentWindow with
        state := .granted, concurRemaining := none }).latch .permitGranted

/-- Renew Consent (R123). -/
def State.renewJudged (generation : BitVec 16) (s : State) : Except Reason State :=
  if s.permit.state = .granted ∧ generation.toNat = s.permit.generation then
    .ok (s.onPermit (·.consentLoaded s.settings.consentWindow))
  else .error .stale

/-- Concur remaining falls (R121). -/
def Permit.concurFallen (p : Permit) : Permit :=
  if p.state = .awaitingConcur then { p with concurRemaining := p.concurRemaining.map (· - 1) } else p

/-- Consent remaining falls (R122). -/
def Permit.consentFallen (p : Permit) : Permit :=
  if p.state = .granted then { p with consentRemaining := p.consentRemaining.map (· - 1) } else p

/-- Whether CONSENT_LOW falls due on the present count (R124). -/
def Permit.consentLowDue (p : Permit) : Bool :=
  match p.state, p.consentRemaining, p.periodWindow, p.lowGiven with
  | .granted, some n, some w, some false => decide (4 * n < w)
  | _, _, _, _ => false

/-- The Permit Unit's part of a motion tick (R121, R122, R124). -/
def State.permitTick (s : State) : State :=
  let s := s.onPermit fun p => p.concurFallen.consentFallen
  if s.permit.consentLowDue then
    (s.onPermit fun p => { p with lowGiven := some true }).latch .consentLow
  else s

/-- The concur window has run out (R121), due when concur remaining is 0. -/
def State.concurTimeout (s : State) : State :=
  if s.permit.state = .awaitingConcur ∧ s.permit.concurRemaining = some 0 then
    s.permitLoss .concurTimeout
  else s

/-- The consent window has run out (R122), due when consent remaining is 0. -/
def State.consentExpired (s : State) : State :=
  if s.permit.state = .granted ∧ s.permit.consentRemaining = some 0 then
    s.permitLoss .consentExpired
  else s

end Sys2Proof.Machine
end

