-- ==== Sys2Proof/Machine/MotionOps.lean ====
section
/-! DEFINITION. The Motion Generator's operations (chapters 02 and 04): appending legs, starts, the
profile operation of a tick, the ends of legs and of timed periods, holds. -/

namespace Sys2Proof.Machine

/-! ## Leg records -/

def Leg.kind (l : Leg) : LegKind := if l.seek.isSome then .seek else .travel

/-- The leg before a new leg (R21): the last pending one, else the current one. -/
def MotionGenerator.legBefore (m : MotionGenerator) : Option Leg :=
  match m.queue.getLast? with
  | some l => some l
  | none => m.current.map (·.leg)

/-- The seek fields of an append: absent for Append Leg, none when a byte encodes no value (R20). -/
def seekSpecOf : Option (Byte × Byte) → Option (Option SeekSpec)
  | none => some none
  | some (marker, action) =>
    match markerIdOk marker, seekActionOf action with
    | true, some a => some (some ⟨marker.toNat, a⟩)
    | _, _ => none

/-- The record that an append stores, with the clamps of R19. -/
def legOf (rampCount : Nat) (b : LegBytes) (dir : Travel) (flow : Bool) (seek : Option SeekSpec) :
    Leg :=
  { direction := dir, length := b.length.toNat, top := min b.top.toNat (rampCount - 1),
    steer := steerOf b.steer, flow := flow, dwell := b.dwell.toNat, tag := b.tag.toNat,
    seek := seek }

/-- Whether a SEEK names a marker that the table holds; true of no seek. -/
def State.seekKnown (s : State) : Option SeekSpec → Bool
  | none => true
  | some k => s.route.markers.any (·.id = k.marker)

/-- Append Leg and Append Seek Leg, tested in the order of R20. -/
def State.appendJudged (b : LegBytes) (seek : Option (Byte × Byte)) (s : State) :
    Except Reason State :=
  match travelOf b.direction, yesNoOf b.flow, seekSpecOf seek with
  | some dir, some flow, some spec =>
    if b.length.toNat = 0 then .error .range
    else if spec.isSome ∧ flow then .error .range
    else if !s.seekKnown spec then .error .range
    else if Config.queueCapacity ≤ s.motion.queue.length then .error .full
    else if flow ∧ s.motion.legBefore.any (·.direction ≠ dir) then .error .range
    else .ok (s.onMotion fun m =>
      { m with queue := m.queue ++ [legOf s.settings.rampCount b dir flow spec] })
  | _, _, _ => .error .range

/-! ## Starts (R31) -/

/-- A leg as it becomes current, its top step clamped to the table in force (R19, R31, R37). -/
def currentOf (rampCount : Nat) (l : Leg) (kLeg stepDistance : Nat) : CurrentLeg :=
  { leg := { l with top := min l.top (rampCount - 1) }, rem := l.length, kLeg := kLeg, kEff := none,
    stepDistance := stepDistance, exitStep := if l.seek.isSome then some 0 else none,
    markerTaken := false }

/-- The path accumulator and the split residual cleared (R46). -/
def State.clearFractions (s : State) : State :=
  s.onDrive fun d => { d with accumulator := 0, residual := 0 }

/-- The phase of a leg that stands at step `k` below or at its top step (R31, R35, R37). -/
def runPhase (k top : Nat) : Phase := if top ≤ k then .cruise else .accel

/-- The head leg starts from rest (R31). -/
def State.startFromRest (s : State) : State :=
  match s.motion.queue with
  | [] => s
  | l :: rest =>
    let c := currentOf s.settings.rampCount l 0 0
    let s := s.clearFractions.onMotion fun m =>
      { m with queue := rest, current := some c, phaseTimer := none, retreat := none }
    s.enterPhase (runPhase 0 c.leg.top)

/-- At rest for a hold with no current leg (R29, R30, R38, R64). -/
def State.heldWithoutLeg (s : State) : State :=
  (s.onMotion fun m => { m with current := none, retreat := none, phaseTimer := none }).enterPhase
    .held

/-- What follows the end of PRE or DWELL (R29, R38): the first line that holds. -/
def State.afterPeriod (s : State) : State :=
  if !s.motion.holds.isEmpty then s.heldWithoutLeg
  else if s.motion.queue.isEmpty then (s.latch .queueEmpty).enterPost
  else if s.permit.state ≠ .granted then s.enterPost
  else s.startFromRest

/-- The end of PRE (R29), due when its timer stands at 0. -/
def State.preEnd (s : State) : State :=
  if s.motion.phase = .pre ∧ s.motion.phaseTimer = some 0 then s.afterPeriod else s

/-- The end of DWELL (R38), due when its timer stands at 0. -/
def State.dwellEnd (s : State) : State :=
  if s.motion.phase = .dwell ∧ s.motion.phaseTimer = some 0 then s.afterPeriod else s

/-- The end of POST (R39), due when its timer stands at 0. -/
def State.postEnd (s : State) : State :=
  if s.motion.phase = .post ∧ s.motion.phaseTimer = some 0 then s.finishPost else s

/-- The entry to PRE (R28): a latched encoder condition makes it a motion fault and PRE is not run
(log 12); otherwise brake and drives on, counts zeroed, the pre time loaded. -/
def State.enterPre (s : State) : State :=
  if allAxes.any (s.route.conditions.get ·) then s.reportConditions
  else
    let s := s.onMotion fun m => { m with phaseTimer := some s.settings.preTime }
    let s := s.onDrive fun d => { d.zeroed with brakeRelease := true }
    ((s.enterPhase .pre).rederiveReporting).preEnd

/-- Go (R27, R28, R30). -/
def State.goJudged (s : State) : Except Reason State :=
  if s.motion.phase = .faulted then .error .state
  else if s.motion.phase ≠ .idle ∧ s.motion.phase ≠ .post then .error .busy
  else if s.motion.queue.isEmpty then .error .state
  else if s.permit.state ≠ .granted then .error .state
  else if s.motion.phase = .idle then .ok s.enterPre
  else if !s.motion.holds.isEmpty then .ok s.heldWithoutLeg
  else .ok s.startFromRest

/-! ## The ends of legs -/

/-- A flow join (R37): the head leg takes over the step, the step distance and the fractions. -/
def State.flowJoin (s : State) (kLeg stepDistance : Nat) : State :=
  match s.motion.queue with
  | [] => s
  | l :: rest =>
    let c := currentOf s.settings.rampCount l kLeg stepDistance
    (s.onMotion fun m => { m with queue := rest, current := some c, retreat := none }).enterPhase
      (runPhase kLeg c.leg.top)

/-- The entry to DWELL (R38), left at once when the dwell is 0 (R25). -/
def State.enterDwell (dwell : Nat) (s : State) : State :=
  let s := (s.onMotion fun m =>
    { m with current := none, retreat := none, phaseTimer := some dwell }).enterPhase .dwell
  s.dwellEnd

/-- The outcome of a leg that ends (R36). -/
def CurrentLeg.outcome (c : CurrentLeg) : LegOutcome :=
  if c.leg.seek.isNone then .done else if c.markerTaken then .seekDone else .seekFailed

/-- The events of a leg's end (R36). -/
def State.latchLegEnd (o : LegOutcome) (s : State) : State :=
  let s := s.latch .legDone
  match o with
  | .done => s
  | .seekDone => s.latch .seekDone
  | .seekFailed => s.latch .seekFailed

/-- The end of a given current leg (R36). -/
def State.endLeg (c : CurrentLeg) (s : State) : State :=
  let s := (s.onMotion fun m => { m with lastEnded := some ⟨c.leg.tag, c.outcome⟩ }).latchLegEnd
    c.outcome
  match s.motion.phase with
  | .stopping => s.stopCompletes (s.motion.pendingStop.getD .commandA)
  | .holding => s.heldWithoutLeg
  | _ =>
    if 0 < c.exitStep.getD 0 ∧ !s.motion.queue.isEmpty then s.flowJoin c.kLeg c.stepDistance
    else s.enterDwell c.leg.dwell

/-- The leg end of R36, due when the current leg of a moving phase has Rem 0. -/
def State.legEnd (s : State) : State :=
  match s.motion.current with
  | some c => if s.motion.phase.moves ∧ c.rem = 0 then s.endLeg c else s
  | none => s

/-- Whether the current leg is a SEEK that has taken its marker. -/
def CurrentLeg.seekTaken (c : CurrentLeg) : Bool := c.leg.seek.isSome && c.markerTaken

/-- The outcome of a retreat at rest (R67 step 5, R68), when the current leg has Rem above 0. -/
def State.retreatAtRest (s : State) : State :=
  match s.motion.current, s.motion.retreat with
  | some c, some r =>
    if !r.due || c.rem = 0 then s
    else
      match s.motion.phase with
      | .holding =>
        if c.seekTaken then s.endLeg { c with rem := 0 }
        else
          (s.onMotion fun m =>
            { m with current := some { c with kLeg := 0, stepDistance := 0, kEff := none },
                     retreat := none }).enterPhase .held
      | .stopping =>
        if c.seekTaken then s.endLeg { c with rem := 0 }
        else s.stopCompletes (s.motion.pendingStop.getD .commandA)
      | .decel => if c.seekTaken then s.endLeg { c with rem := 0, exitStep := some 0 } else s
      | _ => s
  | _, _ => s

/-! ## The profile operation (R32 to R35, R67) -/

/-- The effective step (R32): the lower of the leg's step and the retreat's. -/
def MotionGenerator.effectiveStep (m : MotionGenerator) (c : CurrentLeg) : Nat :=
  match m.retreat with
  | none => c.kLeg
  | some r => min c.kLeg r.h

/-- The base rate (R32): 0 when the retreat is at rest. -/
def State.baseRate (s : State) (k : Nat) : Nat :=
  if s.motion.retreat.any (·.atRest) then 0 else s.settings.rate k

/-- The exit step of the approach latch (R33). -/
def MotionGenerator.approachExit (m : MotionGenerator) (rampCount : Nat) (c : CurrentLeg) : Nat :=
  if m.retreat.isSome then 0
  else
    match m.queue.head? with
    | some l =>
      if l.flow ∧ l.direction = c.leg.direction then min (min l.top (rampCount - 1)) c.leg.top else 0
    | none => 0

/-- The approach latch (R33): taken once, when Rem has fallen to the braking sum of the top step. -/
def State.latchApproach (s : State) (c : CurrentLeg) : CurrentLeg :=
  if c.exitStep.isNone ∧ c.leg.seek.isNone ∧ c.rem ≤ s.settings.braking c.leg.top then
    { c with exitStep := some (s.motion.approachExit s.settings.rampCount c) }
  else c

/-- The rise test (R35); the room is compared in whole numbers that may be negative. -/
def State.mayRise (s : State) (c : CurrentLeg) : Bool :=
  (s.motion.phase = .accel || s.motion.phase = .cruise) && s.motion.retreat.isNone
    && decide (c.kLeg < c.leg.top)
    && decide (s.settings.stepLength c.kLeg ≤ c.stepDistance)
    && decide ((s.settings.braking (c.kLeg + 1) : Int) - s.settings.braking (c.exitStep.getD 0)
        < c.rem)

/-- The wheels' plans, counts, directions and fractions of a tick (R44, R45, R47 to R49). -/
def DriveUnit.wheelsPlanned (d : DriveUnit) (acc residual left right : Nat) (dir : Travel) :
    DriveUnit :=
  { d with
    accumulator := acc, residual := residual,
    plan := { d.plan with left := .of left, right := .of right },
    direction := { d.direction with left := dir, right := dir },
    commanded := { d.commanded with left := moved dir left d.commanded.left,
                                    right := moved dir right d.commanded.right } }

/-- The leg's distances after an advance (R32). -/
def CurrentLeg.advanced (c : CurrentLeg) (k adv : Nat) : CurrentLeg :=
  { c with rem := c.rem - adv, stepDistance := min 16777215 (c.stepDistance + adv), kEff := some k }

/-- The descent and rise tests on the leg's step (R34, R35). -/
def State.stepMoved (s : State) (c : CurrentLeg) : State :=
  let low := descend s.settings.braking c.rem (c.exitStep.getD 0) c.kLeg
  if low < c.kLeg then
    let s := s.onMotion fun m => { m with current := some { c with kLeg := low, stepDistance := 0 } }
    if s.motion.phase = .accel ∨ s.motion.phase = .cruise then s.enterPhase .decel else s
  else if s.mayRise c then
    (s.onMotion fun m =>
      { m with current := some { c with kLeg := c.kLeg + 1, stepDistance := 0 } }).enterPhase
      (runPhase (c.kLeg + 1) c.leg.top)
  else s.onMotion fun m => { m with current := some c }

/-- The profile operation of one tick for a current leg (R32, R67 steps 1 to 3). -/
def State.profileOf (c : CurrentLeg) (s : State) : State :=
  let k := s.motion.effectiveStep c
  let (adv, acc) := advanceOf s.drive.accumulator (2 * s.baseRate k) c.rem
  let (left, residual) := splitOf adv c.leg.steer s.drive.residual
  let s := s.onDrive (·.wheelsPlanned acc residual left (adv - left) c.leg.direction)
  let c := s.latchApproach (c.advanced k adv)
  (s.stepMoved c).onMotion fun m =>
    { m with retreat := m.retreat.map (·.advance s.settings.stepLength adv), lastEff := some k }

/-- A tick in which no leg is handed to the Drive Pulse Unit plans no wheel pulses (R44, R48). -/
def State.noWheels (s : State) : State :=
  s.onDrive fun d => { d with plan := { d.plan with left := .of 0, right := .of 0 } }

/-- The wheels' part of a motion tick: the profile operation in a moving phase, else no pulses. -/
def State.profile (s : State) : State :=
  match s.motion.current with
  | some c => if s.motion.phase.moves then s.profileOf c else s.noWheels
  | none => s.noWheels

/-! ## Holds (R61 to R65) -/

/-- The hold reason set became non-empty (R64). -/
def State.holdStart (s : State) : State :=
  match s.motion.phase with
  | .accel | .cruise | .decel => (s.onMotion (·.retreatBegun)).enterPhase .holding
  | .pre | .dwell => s.heldWithoutLeg
  | .idle | .post | .holding | .held | .stopping | .faulted => s

/-- A reason joins the set (R61, R63). -/
def State.addHold (f : HoldSet → HoldSet) (s : State) : State :=
  let t := s.onMotion fun m => { m with holds := f m.holds }
  if s.motion.holds.isEmpty && !t.motion.holds.isEmpty then t.holdStart else t

/-- A held leg resumes (R65). -/
def State.resumeLeg (c : CurrentLeg) (s : State) : State :=
  let c := { c with kLeg := 0, stepDistance := 0, kEff := none,
                    exitStep := if c.leg.seek.isSome then some 0 else none }
  (s.clearFractions.onMotion fun m => { m with current := some c, retreat := none }).enterPhase
    (runPhase 0 c.leg.top)

/-- A retreat in HOLDING cancelled (R65): the leg's step falls to the effective step of the last profile
operation, which for a leg joined by flow that has run no tick is the previous leg's. -/
def State.cancelRetreat (c : CurrentLeg) (s : State) : State :=
  let k := min c.kLeg (s.motion.lastEff.getD c.kLeg)
  let c := { c with kLeg := k, stepDistance := if k < c.kLeg then 0 else c.stepDistance }
  (s.onMotion fun m => { m with current := some c, retreat := none }).enterPhase
    (runPhase k c.leg.top)

/-- The hold reason set became empty (R65). R65 has no line for PRE, where reasons held since IDLE may leave
the set: nothing changes and PRE runs on (DESIGN CHOICE, log 41). -/
def State.holdEnd (s : State) : State :=
  match s.motion.phase with
  | .held =>
    if s.permit.state ≠ .granted then s.enterPost
    else
      match s.motion.current with
      | some c => s.resumeLeg c
      | none =>
        if s.motion.queue.isEmpty then (s.latch .queueEmpty).enterPost else s.startFromRest
  | .holding =>
    match s.motion.current with
    | some c => if c.seekTaken then s.enterPhase .decel else s.cancelRetreat c
    | none => s
  | _ => s

/-- A reason leaves the set (R62, R63); with a set that was empty nothing happens. -/
def State.dropHold (f : HoldSet → HoldSet) (s : State) : State :=
  let t := s.onMotion fun m => { m with holds := f m.holds }
  if !s.motion.holds.isEmpty && t.motion.holds.isEmpty then t.holdEnd else t

/-- SCENE leaves the set and its timer becomes absent (R62, R63). -/
def State.dropScene (s : State) : State :=
  (s.onMotion fun m => { m with sceneTimer := none }).dropHold fun h => { h with scene := false }

/-- The SCENE_HOLD action (R63). -/
def State.sceneHoldJudged (duration : Nat) (s : State) : Except Reason State :=
  if duration = 0 then .error .range
  else .ok ((s.onMotion fun m => { m with sceneTimer := some duration }).addHold
    fun h => { h with scene := true })

/-- The expiry of the SCENE timer (R63), due when it stands at 0. -/
def State.sceneExpiry (s : State) : State :=
  if s.motion.sceneTimer = some 0 then s.dropScene else s

/-- Release Hold (R62): rights by reason, a value outside the three names is RANGE. -/
def State.releaseHoldOp (p : Port) (reason : Byte) (s : State) : State :=
  let refuse (r : Reason) : State := s.refuse p r Code.releaseHold
  match p, reason.toNat with
  | .b, _ => refuse .rights
  | .a, 0 => s.dropHold fun h => { h with ride := false }
  | .c, 0 => refuse .rights
  | .a, 1 => refuse .rights
  | .c, 1 => s.dropHold fun h => { h with shows := false }
  | .a, 2 => refuse .rights
  | .c, 2 => s.dropScene
  | _, _ => refuse .range

/-- Position loss reported by the Route Counter (R73). -/
def State.positionLoss (s : State) : State :=
  match s.motion.phase with
  | .accel | .cruise | .decel | .holding =>
    (s.softStop .positionLost).showStop .positionLost
  | _ => s

/-- A sought arrival reported by the Route Counter (R41). It acts on what the cues of an ALIGN's jump have
left: a retreat that exists goes on, HOLDING stays, and a leg that a fault has discarded takes nothing
(DESIGN CHOICE, log 44). -/
def State.soughtArrival (s : State) : State :=
  match s.motion.current with
  | none => s
  | some c =>
    let s := s.onMotion fun m =>
      ({ m with current := some { c with markerTaken := true, exitStep := some 0 } }).retreatBegun
    if s.motion.phase = .accel ∨ s.motion.phase = .cruise then s.enterPhase .decel else s

end Sys2Proof.Machine
end

