-- ==== Sys2Proof/Machine/CueOps.lean ====
section
/-! DEFINITION. The Cue Engine's operations (chapter 08): the cues due for a sample or a jump, firing,
the log, and the commands that load and fire cues. -/

namespace Sys2Proof.Machine

/-! ## Action records (R134) -/

/-- Two bytes of a record, most significant first (R193). -/
def wordOf (hi lo : Byte) : BitVec 16 := hi ++ lo

/-- The seven pattern bytes from byte `i` of an action record. -/
def patternBytesOf (r : Vector Byte 10) (i : Fin 4) : PatternBytes :=
  { mode := r[i.val], onTime := wordOf r[i.val + 1] r[i.val + 2],
    offTime := wordOf r[i.val + 3] r[i.val + 4], countOrDuty := r[i.val + 5], link := r[i.val + 6] }

/-- An action record read by its kind, none for a kind other than the seven (R133 test 7, R134). -/
def actionOf (r : Vector Byte 10) : Option CueAction :=
  match r[0].toNat with
  | 0 => some (.play
      { voice := r[1], clip := r[2], gain := r[3], fadeIn := r[4], zones := r[5], plays := r[6],
        hold := r[7], cut := r[8] })
  | 1 => some (.stop r[1] r[2])
  | 2 => some (.gain r[1] r[2] r[3])
  | 3 => some (.zone r[1] r[2] r[3])
  | 4 => some (.effect r[1] r[2] (patternBytesOf r 3))
  | 5 => some (.turn (wordOf r[1] r[2]) r[3])
  | 6 => some (.sceneHold (wordOf r[1] r[2]))
  | _ => none

/-! ## The log (R149, R150) -/

/-- An outcome appended to the log, whose oldest entry leaves when it holds 16; the count rises. -/
def CueEngine.logged (e : LogEntry) (x : CueEngine) : CueEngine :=
  { x with
    log := (if Config.logCapacity ≤ x.log.length then x.log.drop 1 else x.log) ++ [e],
    outcomes := (x.outcomes + 1) % 65536 }

/-- An outcome logged with the route position as it stands. -/
def State.logCue (i : Fin 64) (o : CueOutcome) (action : Option Nat) (s : State) : State :=
  s.onCues (·.logged ⟨i, o, action, s.route.position⟩)

/-! ## Firing and dispatch -/

/-- An action handed to its owning block (R148). -/
def State.actionJudged (s : State) : CueAction → Except Reason State
  | .play a => s.playJudged a
  | .stop voice step => s.stopJudged voice step
  | .gain voice target step => s.gainJudged voice target step
  | .zone zone target step => s.zoneJudged zone target step
  | .effect channel operation pattern => s.effectAction channel operation pattern
  | .turn target mode => s.turnJudged target mode
  | .sceneHold duration => s.sceneHoldJudged duration.toNat

/-- One action dispatched; a refused one is logged DROPPED with its index (R148). -/
def State.dispatch (i : Fin 64) (index : Nat) (a : CueAction) (s : State) : State :=
  match s.actionJudged a with
  | .ok t => t
  | .error _ => (s.logCue i .dropped (some index)).latch .cueActionDropped

/-- A list of actions dispatched in order, the first with the given index (R147 step 3). -/
def State.dispatchAll (i : Fin 64) : Nat → List CueAction → State → State
  | _, [], s => s
  | index, a :: rest, s => State.dispatchAll i (index + 1) rest (s.dispatch i index a)

/-- The cue in slot `i` fires (R147). -/
def State.fire (i : Fin 64) (s : State) : State :=
  match s.slot i with
  | none => s
  | some c =>
    let s := s.setSlot i (some { c with fired := true })
    let s := (s.logCue i .fired none).latch .cueFired
    s.dispatchAll i 0 c.actions

/-- The cue in slot `i` is passed as missed (R143, R145). -/
def State.miss (i : Fin 64) (s : State) : State :=
  match s.slot i with
  | none => s
  | some c =>
    ((s.setSlot i (some { c with fired := true })).logCue i .missed none).latch .cueMissed

/-! ## The cues due -/

/-- Whether a forward span takes a cue (R140, R143). -/
def Cue.dueForward (lo hi : Int) (c : Cue) : Bool :=
  !c.fired && c.direction != .rev && decide (lo < c.trigger) && decide (c.trigger ≤ hi)

/-- Whether a reverse span takes a cue (R140). -/
def Cue.dueReverse (lo hi : Int) (c : Cue) : Bool :=
  !c.fired && c.direction != .fwd && decide (lo ≤ c.trigger) && decide (c.trigger < hi)

/-- A slot put into a list of slots that all have higher numbers, before the first whose trigger it
does not follow. -/
def insertDue (key : Int) (i : Fin 64) : List (Int × Fin 64) → List (Int × Fin 64)
  | [] => [(key, i)]
  | (k, j) :: rest => if key ≤ k then (key, i) :: (k, j) :: rest else (k, j) :: insertDue key i rest

/-- The slots whose cue is due, by ascending key, equal keys by ascending slot. -/
def State.dueBy (s : State) (due : Cue → Bool) (key : Int → Int) : List (Fin 64) :=
  (allSlots.foldr (fun i acc =>
    match s.slot i with
    | some c => if due c then insertDue (key c.trigger) i acc else acc
    | none => acc) []).map (·.2)

/-- The cues due for a sample or span from `before` to `after`, in their order (R140). -/
def State.cuesDue (s : State) (before after : Int) : List (Fin 64) :=
  if before < after then s.dueBy (Cue.dueForward before after) id
  else if after < before then s.dueBy (Cue.dueReverse after before) (- ·)
  else []

/-- A route sample (R139, R141, R145). -/
def State.sample (before after : Int) (s : State) : State :=
  match s.cues.engine with
  | .disarmed => s
  | .armed => (s.cuesDue before after).foldl (fun s i => s.fire i) s
  | .suppressed => (s.cuesDue before after).foldl (fun s i => s.miss i) s

/-- One cue of a forward jump in ARMED: fired unless the jump ends beyond its latest (R143). -/
def State.jumpCue (after : Int) (s : State) (i : Fin 64) : State :=
  if ((s.slot i).bind (·.latest)).any (· < after) then s.miss i else s.fire i

/-- A jump (R143 to R145); a backward one does nothing. -/
def State.jump (before after : Int) (s : State) : State :=
  if after ≤ before then s
  else
    match s.cues.engine with
    | .disarmed => s
    | .armed => (s.cuesDue before after).foldl (State.jumpCue after) s
    | .suppressed => (s.cuesDue before after).foldl (fun s i => s.miss i) s

/-! ## Commands -/

/-- The actions of a Load Cue, none when some kind is unknown (R133 test 7). -/
def actionsOf : List (Vector Byte 10) → Option (List CueAction)
  | [] => some []
  | r :: rest =>
    match actionOf r, actionsOf rest with
    | some a, some as => some (a :: as)
    | _, _ => none

/-- The latest field of a Load Cue: present unless its presence byte is 0 (R193). -/
def latestOf (b : CueBytes) : Option Int :=
  if b.latestPresent = 0 then none else some b.latest.toInt

/-- Load Cue (R133), tests 2 to 7 in their order. -/
def State.loadCueJudged (b : CueBytes) (s : State) : Except Reason State :=
  if b.count.toNat = 0 ∨ 4 < b.count.toNat then .error .range
  else
    match finOf 64 b.slot, cueDirectionOf b.direction with
    | some i, some dir =>
      if (latestOf b).isSome ∧ dir = .rev then .error .range
      else if (latestOf b).any (· < b.trigger.toInt) then .error .range
      else
        match actionsOf b.actions with
        | none => .error .range
        | some actions =>
          .ok (s.setSlot i (some
            { trigger := b.trigger.toInt, direction := dir, latest := latestOf b,
              actions := actions, fired := false }))
    | _, _ => .error .range

/-- Delete Cue (R135). -/
def State.deleteCueJudged (slot : Byte) (s : State) : Except Reason State :=
  match finOf 64 slot with
  | some i => .ok (s.setSlot i none)
  | none => .error .range

/-- Fire Cue (R146). -/
def State.fireCueJudged (slot : Byte) (s : State) : Except Reason State :=
  match finOf 64 slot with
  | none => .error .range
  | some i =>
    match s.slot i with
    | none => .error .range
    | some c => if c.fired then .error .state else .ok (s.fire i)

def State.setEngine (e : EngineState) (s : State) : State :=
  s.onCues fun x => { x with engine := e }

/-- Every fired flag cleared (R136). -/
def State.clearFired (s : State) : State :=
  s.onCues fun e =>
    let clear (v : Vector (Option Cue) 64) (i : Fin 64) : Vector (Option Cue) 64 :=
      v.set i (v[i].map fun c => { c with fired := false })
    { e with slots := allSlots.foldl clear e.slots }

/-- What Zero Route tells the engine: re-arm (R15, R136, R137). -/
def State.rearm (s : State) : State :=
  s.clearFired.onCues fun e => if e.engine = .suppressed then { e with engine := .armed } else e

/-- The engine's part of a SHOW section reset (R153). -/
def State.cueReset (s : State) : State := s.clearFired.setEngine .disarmed

end Sys2Proof.Machine
end

