-- ==== Sys2Proof/Machine/Outputs.lean ====
section
/-! DEFINITION. The output lines, which are functions of the state and of a place within a tick, a
carrier period, a frame or a transaction, and so are not stored (log 31): drives, solenoids, effect
outputs, serial audio, the flash port and the lines of the command ports. A line answers its level, low
or off being false; under RESET each stands as R205 holds it. -/

namespace Sys2Proof.Machine

/-- A line's level: `held` while RESET is asserted (R205), else the level its own rule gives. -/
def State.line (s : State) (held live : Bool) : Bool := if s.inReset then held else live

/-! ## Drives -/

/-- The step line of a plan, `t` nanoseconds into the tick (R47): pulse `k` begins 8 µs after the start
of slot `k` and lasts 4 µs. Of a plan ended early the first pulses stay whole (R57). -/
def Plan.level (x : Plan) (t : Nat) : Bool :=
  let slot := t * x.slots / 1000000
  let within := t * x.slots % 1000000
  decide (slot < x.due) && decide (t < 1000000) && decide (8000 * x.slots ≤ within)
    && decide (within < 12000 * x.slots)

/-- A step output (R47). -/
def State.stepOut (s : State) (i : Axis) (t : Nat) : Bool := s.line false ((s.drive.plan.get i).level t)

/-- A direction output (R48). -/
def State.directionOut (s : State) (i : Axis) : Travel :=
  if s.inReset then .fwd else s.drive.direction.get i

/-- The drive enable and brake release outputs (R53, R55). -/
def State.enableOut (s : State) : Bool := s.line false s.drive.enable
def State.brakeOut (s : State) : Bool := s.line false s.drive.brakeRelease

/-! ## Solenoids -/

/-- A release solenoid's output, `t` nanoseconds into the motion tick (R108). -/
def State.solenoidOut (s : State) (i : Fin 8) (t : Nat) : Bool :=
  s.line false (decide (t * 16 < s.solenoidSixteenths i * 1000000))

/-! ## Effects -/

/-- The dim carrier's level for a duty, `us` microseconds into its 2 ms period (R156). -/
def carrierLevel (duty us : Nat) : Bool := decide (us * 255 < duty * 2000)

/-- The output of a channel by its state (R154), `us` microseconds into the carrier period. -/
def Channel.output (us : Nat) (x : Channel) : Bool :=
  match x.state with
  | .steadyOn | .pulseOn | .burstOn | .cycleOn => true
  | .off | .burstOff | .cycleOff | .lockedOut => false
  | .dim => x.running.any fun p => carrierLevel p.countOrDuty us

/-- The microsecond of the carrier period at `us` microseconds into the running millisecond. -/
def EffectBank.carrierAt (us : Nat) (b : EffectBank) : Nat :=
  (if b.carrierSecond then 1000 else 0) + us % 1000

/-- An effect output, `us` microseconds into the carrier period (R154, R156). -/
def State.effectOut (s : State) (c : Fin 12) (us : Nat) : Bool := s.line false ((s.channel c).output us)

/-! ## Serial audio -/

/-- Bit `i` of the audio frame of an output that carries two samples (R185), 50 bit clocks. -/
def audioBit (left right : Int) (i : Nat) : Bool :=
  let x := if i < 25 then left else right
  let j := i % 25
  decide (1 ≤ j) && decide (j ≤ 16) && (BitVec.ofInt 16 x).getLsbD (16 - j)

/-- Word select in bit clock `i` of a frame (R185): low for the first 25. -/
def State.audioSelect (s : State) (i : Nat) : Bool := s.line false (decide (25 ≤ i))

/-- The data line in bit clock `i` of the frame on audio output 0 (front) or 1 (rear) (R185). -/
def State.audioOut (s : State) (rear : Bool) (i : Nat) : Bool :=
  s.line false
    (if rear then audioBit s.sound.sent[2] s.sound.sent[3] i
     else audioBit s.sound.sent[0] s.sound.sent[1] i)

/-- The bit clock (R185) before and after the rising edge within a bit; data changes where it falls. -/
def State.audioClock (s : State) (risen : Bool) : Bool := s.line false risen

/-! ## The flash port -/

/-- The bytes the flash port sends for the read that holds it (R167). -/
def FlashRead.command (r : FlashRead) : List Byte := 0x03 :: beBytes 3 r.address

/-- The bits of a transaction (R167): the four bytes sent, then the data bytes. -/
def FlashRead.bits (r : FlashRead) : Nat := 8 * (4 + r.bytes)

/-- Bit `i` of a list of bytes, each most significant bit first. -/
def bitOf (bytes : List Byte) (i : Nat) : Bool := (bytes.getD (i / 8) 0).getLsbD (7 - i % 8)

/-- The flash port's chip select: low while a read holds the port, else high (R167, R205). -/
def State.flashSelect (s : State) : Bool := s.line true s.sound.flash.isNone

/-- The flash port's serial clock before and after the rising edge within bit `i` of the transaction; low
at rest (R167). -/
def State.flashClock (s : State) (i : Nat) (risen : Bool) : Bool :=
  s.line false (s.sound.flash.any fun r => decide (i < r.bits) && risen)

/-- The flash port's data out in bit `i` of the transaction (R167): the bits of the bytes sent, then low;
low at rest (DESIGN CHOICE, log 36). -/
def State.flashOut (s : State) (i : Nat) : Bool :=
  s.line false (s.sound.flash.any fun r => bitOf r.command i)

/-! ## The command ports -/

/-- Whether CS of a port is low: a frame runs, or the low level of before the release goes on (R206). -/
def PortState.csLow (x : PortState) : Bool := x.framer != .deselected || x.waitRise

/-- SDO of a port in bit `k` of the slot (R191), none being high impedance. The bit moves on with the
falling edge that follows each rising edge of the slot (DEDUCED, log 36). -/
def State.sdoLine (s : State) (p : Port) (k : Fin 8) : Option Bool :=
  let x := s.ports.get p
  if s.inReset || !x.csLow then none else some (x.sdo.getLsbD (7 - k.val))

/-- The level of ATTN of a port: active low (R199). -/
def State.attnLine (s : State) (p : Port) : Bool := s.line true (!(s.ports.get p).attn)

end Sys2Proof.Machine
end

