-- ==== Sys2Proof/Machine/Settings.lean ====
section
/-! DEFINITION. The numbered settings (R202, R203): number, owner, write condition, range, the stored
value, and what a taken write does. -/

namespace Sys2Proof.Machine

/-- The settings of the settings table (R203); `clip` counts the four announcement clips. -/
inductive Setting
  | eventMask (p : Port)
  | watchSet (p : Port)
  | encoderErrorLimit | mismatchLimit
  | rampCount
  | rampStep (k : Fin 16)
  | preTime | postTime | servoHold
  | wheelFollowingLimit | turntableFollowingLimit
  | countsPerRevolution
  | turntableStep (k : Fin 4)
  | fittedSeatCount
  | occupancyFilterTime | pairFilterTime | barSlack | pullInTime | holdLevel | releaseTimeout
  | occupiedMinimum | emptyMinimum | concurWindow | consentWindow
  | safeOffMask | exclusivePairMask
  | flashSize | duckLevel | duckStep | faultFadeStep | announcementGain
  | announcementClip (k : Fin 4)
  deriving DecidableEq, Repr

def Port.index : Port → Nat
  | .a => 0
  | .b => 1
  | .c => 2

/-- The first column of R203. -/
def Setting.number : Setting → Nat
  | .eventMask p => 1 + Port.index p
  | .watchSet p => 4 + Port.index p
  | .encoderErrorLimit => 16
  | .mismatchLimit => 17
  | .rampCount => 32
  | .rampStep k => 33 + k.val
  | .preTime => 49
  | .postTime => 50
  | .servoHold => 51
  | .wheelFollowingLimit => 56
  | .turntableFollowingLimit => 57
  | .countsPerRevolution => 64
  | .turntableStep k => 65 + k.val
  | .fittedSeatCount => 80
  | .occupancyFilterTime => 81
  | .pairFilterTime => 82
  | .barSlack => 83
  | .pullInTime => 84
  | .holdLevel => 85
  | .releaseTimeout => 86
  | .occupiedMinimum => 96
  | .emptyMinimum => 97
  | .concurWindow => 98
  | .consentWindow => 99
  | .safeOffMask => 112
  | .exclusivePairMask => 113
  | .flashSize => 128
  | .duckLevel => 129
  | .duckStep => 130
  | .faultFadeStep => 131
  | .announcementGain => 132
  | .announcementClip k => 133 + k.val

/-- The setting that a number names, none for any other number (R202 test 1). -/
def settingOf (n : Nat) : Option Setting :=
  if h : 33 ≤ n ∧ n < 49 then some (.rampStep ⟨n - 33, by omega⟩)
  else if h : 65 ≤ n ∧ n < 69 then some (.turntableStep ⟨n - 65, by omega⟩)
  else if h : 133 ≤ n ∧ n < 137 then some (.announcementClip ⟨n - 133, by omega⟩)
  else
    match n with
    | 1 => some (.eventMask .a) | 2 => some (.eventMask .b) | 3 => some (.eventMask .c)
    | 4 => some (.watchSet .a) | 5 => some (.watchSet .b) | 6 => some (.watchSet .c)
    | 16 => some .encoderErrorLimit | 17 => some .mismatchLimit
    | 32 => some .rampCount
    | 49 => some .preTime | 50 => some .postTime | 51 => some .servoHold
    | 56 => some .wheelFollowingLimit | 57 => some .turntableFollowingLimit
    | 64 => some .countsPerRevolution
    | 80 => some .fittedSeatCount | 81 => some .occupancyFilterTime | 82 => some .pairFilterTime
    | 83 => some .barSlack | 84 => some .pullInTime | 85 => some .holdLevel
    | 86 => some .releaseTimeout
    | 96 => some .occupiedMinimum | 97 => some .emptyMinimum | 98 => some .concurWindow
    | 99 => some .consentWindow
    | 112 => some .safeOffMask | 113 => some .exclusivePairMask
    | 128 => some .flashSize | 129 => some .duckLevel | 130 => some .duckStep
    | 131 => some .faultFadeStep | 132 => some .announcementGain
    | _ => none

/-- The port that may write a setting. -/
def Setting.owner : Setting → Port
  | .eventMask p => p
  | .watchSet p => p
  | .rampCount | .rampStep _ | .preTime | .postTime | .servoHold => .a
  | .countsPerRevolution | .turntableStep _ | .fittedSeatCount => .a
  | .encoderErrorLimit | .mismatchLimit | .wheelFollowingLimit | .turntableFollowingLimit => .b
  | .occupancyFilterTime | .pairFilterTime | .barSlack | .pullInTime | .holdLevel => .b
  | .releaseTimeout | .occupiedMinimum | .emptyMinimum | .concurWindow | .consentWindow => .b
  | .safeOffMask | .exclusivePairMask | .flashSize | .duckLevel | .duckStep => .c
  | .faultFadeStep | .announcementGain | .announcementClip _ => .c

/-- The write condition, with the further condition of the fitted seat count (R94). -/
def Setting.admitted (s : State) : Setting → Bool
  | .rampCount | .rampStep _ => s.motion.phase = .idle
  | .countsPerRevolution | .turntableStep _ => s.tt.phase = .idle
  | .fittedSeatCount =>
    s.permit.state = .noPermit && s.motion.phase = .idle
      && !(allSeats.any fun i => (s.seat i).state = .releasing)
  | _ => true

/-- The range of a setting that is one number. -/
def Setting.range : Setting → Nat × Nat
  | .eventMask _ => (0, 536870911)
  | .watchSet _ => (0, 2047)
  | .encoderErrorLimit => (1, 255)
  | .mismatchLimit => (1, 7)
  | .rampCount => (1, 16)
  | .rampStep _ => (0, 4294967295)
  | .preTime => (0, 2000)
  | .postTime => (0, 5000)
  | .servoHold => (0, 1)
  | .wheelFollowingLimit => (16, 8191)
  | .turntableFollowingLimit => (16, 8191)
  | .countsPerRevolution => (256, 65535)
  | .turntableStep _ => (0, 4294967295)
  | .fittedSeatCount => (1, 8)
  | .occupancyFilterTime => (1, 255)
  | .pairFilterTime => (1, 255)
  | .barSlack => (0, 15)
  | .pullInTime => (10, 500)
  | .holdLevel => (1, 15)
  | .releaseTimeout => (100, 5000)
  | .occupiedMinimum => (0, 255)
  | .emptyMinimum => (0, 255)
  | .concurWindow => (100, 10000)
  | .consentWindow => (50, 5000)
  | .safeOffMask => (0, 4095)
  | .exclusivePairMask => (0, 63)
  | .flashSize => (1, 16)
  | .duckLevel => (0, 255)
  | .duckStep => (1, 255)
  | .faultFadeStep => (1, 255)
  | .announcementGain => (0, 255)
  | .announcementClip _ => (0, 255)

/-- The settings marked "clamp" in R203. -/
def Setting.clamped : Setting → Bool
  | .duckLevel | .duckStep | .faultFadeStep | .announcementGain => true
  | _ => false

/-- A step setting's value: rate in the upper two bytes, length in the lower two (R203). -/
def stepOf (v : Nat) : RampStep := ⟨v / 65536, v % 65536⟩
def stepValue (x : RampStep) : Nat := x.rate * 65536 + x.length

/-- A step's rate and length in their ranges (R23, R83). -/
def stepInRange (most : Nat) (x : RampStep) : Bool :=
  decide (1 ≤ x.rate) && decide (x.rate ≤ most) && decide (1 ≤ x.length)

/-- Rates strictly increasing over the first `n` steps (R23). -/
def increasing (rate : Nat → Nat) : Nat → Bool
  | 0 => true
  | 1 => true
  | n + 2 => increasing rate (n + 1) && decide (rate n < rate (n + 1))

/-- A rate that keeps the order of its neighbours among the first `n` steps (R23, R83). -/
def inOrder (rate : Nat → Nat) (n k new : Nat) : Bool :=
  (k = 0 || decide (rate (k - 1) < new)) && (!decide (k + 1 < n) || decide (new < rate (k + 1)))

/-- Test 4 of R202: the value is in range and keeps the orders of R23 and R83. -/
def Setting.accepts (x : Settings) (v : Nat) : Setting → Bool
  | .rampCount => decide (1 ≤ v) && decide (v ≤ 16) && increasing x.rate v
  | .rampStep k =>
    stepInRange 30000 (stepOf v)
      && (!decide (k.val < x.rampCount) || inOrder x.rate x.rampCount k (stepOf v).rate)
  | .turntableStep k => stepInRange 20000 (stepOf v) && inOrder x.turnRate 4 k (stepOf v).rate
  | st => decide (st.range.1 ≤ v) && decide (v ≤ st.range.2)

/-- The present value as stored (R203). -/
def Setting.value (s : State) : Setting → Nat
  | .eventMask p => (s.ports.get p).mask.toNat
  | .watchSet p => (s.ports.get p).watch.toNat
  | .encoderErrorLimit => s.settings.encoderErrorLimit
  | .mismatchLimit => s.settings.mismatchLimit
  | .rampCount => s.settings.rampCount
  | .rampStep k => stepValue s.settings.ramp[k]
  | .preTime => s.settings.preTime
  | .postTime => s.settings.postTime
  | .servoHold => if s.settings.servoHold then 1 else 0
  | .wheelFollowingLimit => s.settings.wheelFollowingLimit
  | .turntableFollowingLimit => s.settings.turntableFollowingLimit
  | .countsPerRevolution => s.settings.countsPerRevolution
  | .turntableStep k => stepValue s.settings.turntableRamp[k]
  | .fittedSeatCount => s.settings.fittedSeatCount
  | .occupancyFilterTime => s.settings.occupancyFilterTime
  | .pairFilterTime => s.settings.pairFilterTime
  | .barSlack => s.settings.barSlack
  | .pullInTime => s.settings.pullInTime
  | .holdLevel => s.settings.holdLevel
  | .releaseTimeout => s.settings.releaseTimeout
  | .occupiedMinimum => s.settings.occupiedMinimum
  | .emptyMinimum => s.settings.emptyMinimum
  | .concurWindow => s.settings.concurWindow
  | .consentWindow => s.settings.consentWindow
  | .safeOffMask => s.settings.safeOffMask.toNat
  | .exclusivePairMask => s.settings.exclusivePairMask.toNat
  | .flashSize => s.settings.flashSize
  | .duckLevel => s.settings.duckLevel
  | .duckStep => s.settings.duckStep
  | .faultFadeStep => s.settings.faultFadeStep
  | .announcementGain => s.settings.announcementGain
  | .announcementClip k => s.settings.announcementClips[k]

/-! ## What a taken write does -/

/-- A write of the encoder error limit tests all three counts at once (R2, R18). -/
def State.storeEncoderLimit (v : Nat) (s : State) : State :=
  (s.onSettings fun x => { x with encoderErrorLimit := v }).testEncoders allAxes

/-- A write of the turntable counts per revolution (R81). -/
def State.storeCounts (v : Nat) (s : State) : State :=
  (s.onSettings fun x => { x with countsPerRevolution := v }).onTurntable fun t =>
    { t with position := 0, homed := false }

/-- What a new exclusive pair mask does to one pair (R160). -/
def State.pairMasked (old : BitVec 6) (s : State) (p : Fin 6) : State :=
  let was := old.getLsbD p
  let now := s.exclusive p
  let active (c : Fin 12) : Bool := (s.channel c).state.active
  if !was && now then
    if active (lowerOf p) && active (upperOf p) then s.effectOff (upperOf p) else s
  else if was && !now then s.onEffects fun b => { b with conflicts := b.conflicts.set p 0 }
  else s

/-- A write of the exclusive pair mask (R160). -/
def State.storePairMask (v : Nat) (s : State) : State :=
  let old := s.settings.exclusivePairMask
  allPairs.foldl (State.pairMasked old)
    (s.onSettings fun x => { x with exclusivePairMask := BitVec.ofNat 6 v })

/-- A taken write stores the value and has the effect of the rule R203 names. -/
def Setting.store (v : Nat) (s : State) : Setting → State
  | .eventMask p => s.onPort p fun x => { x with mask := BitVec.ofNat 32 v }.rederiveAttn
  | .watchSet p => s.onPort p fun x => { x with watch := BitVec.ofNat 32 v }
  | .encoderErrorLimit => s.storeEncoderLimit v
  | .mismatchLimit => s.onSettings fun x => { x with mismatchLimit := v }
  | .rampCount => s.onSettings fun x => { x with rampCount := v }
  | .rampStep k => s.onSettings fun x => { x with ramp := x.ramp.set k (stepOf v) }
  | .preTime => s.onSettings fun x => { x with preTime := v }
  | .postTime => s.onSettings fun x => { x with postTime := v }
  | .servoHold => s.onSettings fun x => { x with servoHold := v = 1 }
  | .wheelFollowingLimit => s.onSettings fun x => { x with wheelFollowingLimit := v }
  | .turntableFollowingLimit => s.onSettings fun x => { x with turntableFollowingLimit := v }
  | .countsPerRevolution => s.storeCounts v
  | .turntableStep k =>
    s.onSettings fun x => { x with turntableRamp := x.turntableRamp.set k (stepOf v) }
  | .fittedSeatCount => s.refit v
  | .occupancyFilterTime => s.onSettings fun x => { x with occupancyFilterTime := v }
  | .pairFilterTime => s.onSettings fun x => { x with pairFilterTime := v }
  | .barSlack => s.onSettings fun x => { x with barSlack := v }
  | .pullInTime => s.onSettings fun x => { x with pullInTime := v }
  | .holdLevel => s.onSettings fun x => { x with holdLevel := v }
  | .releaseTimeout => s.onSettings fun x => { x with releaseTimeout := v }
  | .occupiedMinimum => s.onSettings fun x => { x with occupiedMinimum := v }
  | .emptyMinimum => s.onSettings fun x => { x with emptyMinimum := v }
  | .concurWindow => s.onSettings fun x => { x with concurWindow := v }
  | .consentWindow => s.onSettings fun x => { x with consentWindow := v }
  | .safeOffMask => s.onSettings fun x => { x with safeOffMask := BitVec.ofNat 12 v }
  | .exclusivePairMask => s.storePairMask v
  | .flashSize => s.onSettings fun x => { x with flashSize := v }
  | .duckLevel => s.onSettings fun x => { x with duckLevel := v }
  | .duckStep => s.onSettings fun x => { x with duckStep := v }
  | .faultFadeStep => s.onSettings fun x => { x with faultFadeStep := v }
  | .announcementGain => s.onSettings fun x => { x with announcementGain := v }
  | .announcementClip k =>
    s.onSettings fun x => { x with announcementClips := x.announcementClips.set k v }

/-- The value that a taken write stores: clamped for the settings so marked (R202). -/
def Setting.stored (v : Nat) (st : Setting) : Nat :=
  if st.clamped then clampNat st.range.1 st.range.2 v else v

/-- Write Setting, its tests in the order of R202. -/
def State.writeJudged (p : Port) (number v : Nat) (s : State) : Except Reason State :=
  match settingOf number with
  | none => .error .range
  | some st =>
    if st.owner ≠ p then .error .rights
    else if !st.admitted s then .error .state
    else if !st.clamped && !st.accepts s.settings v then .error .range
    else .ok (st.store (st.stored v) s)

end Sys2Proof.Machine
end

