-- ==== Sys2Proof/Machine/Reads.lean ====
section
/-! DEFINITION. The bodies of the responses (R207): for each read command the fields its rule lists, in
that order (log 18, 19). An enumerated value is sent as its position, `ctorIdx`. -/

namespace Sys2Proof.Machine

/-- An enumerated value by its position (R207). -/
def enumByte (position : Nat) : List Byte := [BitVec.ofNat 8 position]

/-- The bytes of each member of a fixed set, member by member (R207). -/
def each {α : Type} (xs : List α) (f : α → List Byte) : List Byte := xs.flatMap f

/-- Read Status (R198, R207): event set and last refusal. -/
def PortState.statusBody (x : PortState) : List Byte :=
  numBytes 4 x.events.toNat
    ++ optBytes 2 (fun r => enumByte r.reason.ctorIdx ++ [r.code]) x.lastRefusal

/-- Read Setting (R203, R207). -/
def State.settingBody (s : State) (number : Byte) (st : Setting) : List Byte :=
  number :: numBytes 4 (st.value s)

/-- Read Route (R16). -/
def RouteCounter.body (r : RouteCounter) : List Byte :=
  beBytes 4 r.position ++ numBytes 1 r.mismatches ++ flagByte r.lost
    ++ optBytes 5 (fun m => numBytes 1 m.id ++ beBytes 4 m.error) r.lastMarker
    ++ optBytes 5 (fun m => beBytes 4 m.position ++ numBytes 1 m.id) r.markRecord
    ++ each allAxes (fun i => numBytes 1 (r.errors.get i))
    ++ each allAxes (fun i => flagByte (r.conditions.get i))
    ++ numBytes 1 r.markers.length

/-- Read Marker (R16): the entry, or its absence. -/
def markerBody (m : Option Marker) : List Byte :=
  optBytes 8 (fun m => numBytes 1 m.id ++ beBytes 4 m.position ++ numBytes 2 m.tolerance
    ++ enumByte m.kind.ctorIdx) m

/-- Read Marker List (R16). -/
def RouteCounter.listBody (r : RouteCounter) : List Byte :=
  listBytes (fun m => numBytes 1 m.id) r.markers

/-- A leg record (R19). DESIGN CHOICE (log 38): the marker and the action of a SEEK are two optional
fields, each with its presence byte. -/
def Leg.bytes (l : Leg) : List Byte :=
  enumByte l.kind.ctorIdx ++ enumByte l.direction.ctorIdx ++ numBytes 3 l.length
    ++ numBytes 1 l.top ++ beBytes 2 l.steer ++ flagByte l.flow ++ numBytes 2 l.dwell
    ++ numBytes 1 l.tag
    ++ optBytes 1 (fun k => numBytes 1 k.marker) l.seek
    ++ optBytes 1 (fun k => enumByte k.action.ctorIdx) l.seek

/-- The current leg as Read Motion gives it (R42). DESIGN CHOICE (log 38): the exit step and, for a
SEEK, marker taken are optional fields of their own; k_eff before the first tick is k_leg (log 17). -/
def CurrentLeg.bytes (retreating : Bool) (c : CurrentLeg) : List Byte :=
  c.leg.bytes ++ numBytes 3 c.rem ++ numBytes 1 c.kLeg ++ numBytes 1 (c.kEff.getD c.kLeg)
    ++ numBytes 3 c.stepDistance ++ optBytes 1 (numBytes 1) c.exitStep ++ flagByte retreating
    ++ optBytes 1 (fun _ => flagByte c.markerTaken) c.leg.seek

/-- Read Motion (R42). -/
def MotionGenerator.body (m : MotionGenerator) : List Byte :=
  enumByte m.phase.ctorIdx
    ++ numBytes 1 (maskOf [m.holds.ride, m.holds.shows, m.holds.scene])
    ++ optBytes 2 (numBytes 2) m.phaseTimer
    ++ optBytes 29 (CurrentLeg.bytes m.retreat.isSome) m.current
    ++ numBytes 1 m.queue.length
    ++ optBytes 2 (fun x => numBytes 1 x.tag ++ enumByte x.outcome.ctorIdx) m.lastEnded
    ++ flagByte m.servoLatch
    ++ optBytes 7 (fun f => enumByte f.cause.ctorIdx ++ beBytes 4 f.position
        ++ optBytes 1 (numBytes 1) f.tag) m.fault
    ++ numBytes 1 m.extraFaults
    ++ optBytes 2 (fun x => enumByte x.kind.ctorIdx ++ enumByte x.cause.ctorIdx) m.lastStop
    ++ optBytes 1 (fun (c : StopCause) => enumByte c.ctorIdx) m.pendingStop

/-- Read Legs (R42). -/
def MotionGenerator.legsBody (m : MotionGenerator) : List Byte := listBytes Leg.bytes m.queue

/-- Read Drive (R58), the alarms as the lines stand. -/
def State.driveBody (s : State) : List Byte :=
  let d := s.drive
  numBytes 2 d.accumulator ++ numBytes 2 d.residual
    ++ each allAxes (fun i => numBytes 4 (d.commanded.get i).toNat)
    ++ each allAxes (fun i => numBytes 4 (d.measured.get i).toNat)
    ++ each allAxes (fun i => beBytes 4 (d.following i))
    ++ flagByte d.enable ++ flagByte d.brakeRelease
    ++ each allAxes (fun i => enumByte (d.direction.get i).ctorIdx)
    ++ each allAxes (fun i => flagByte (s.pins.alarm.get i))

/-- The target and the mode of a turn; a homing run has neither. -/
def RunKind.turnOf : RunKind → Option (Nat × TurnMode)
  | .turn target mode => some (target, mode)
  | .home => none

/-- TURN or HOME. -/
def RunKind.index : RunKind → Nat
  | .turn _ _ => 0
  | .home => 1

/-- The run in flight as Read Turntable gives it (R92). DESIGN CHOICE (log 38): the target and the mode
of a turn go out as two optional fields, each with its presence byte, and not as one optional record;
so does the phase timer. DESIGN CHOICE (log 39): the effective step between ticks is that of the last
tick, whatever rise, descent or retreat has come since. -/
def Run.bytes (timer : Option Nat) (r : Run) : List Byte :=
  enumByte r.kind.index
    ++ optBytes 2 (fun x => numBytes 2 x.1) r.kind.turnOf
    ++ optBytes 1 (fun x => enumByte x.2.ctorIdx) r.kind.turnOf
    ++ enumByte r.direction.ctorIdx ++ numBytes 3 r.rem ++ numBytes 1 (r.kEff.getD r.k)
    ++ flagByte r.retreat.isSome ++ optBytes 2 (numBytes 2) timer

/-- Read Turntable (R92). -/
def State.turntableBody (s : State) : List Byte :=
  let t := s.tt
  enumByte t.phase.ctorIdx ++ numBytes 2 t.position ++ flagByte t.homed
    ++ numBytes 2 s.settings.countsPerRevolution
    ++ optBytes 15 (Run.bytes t.timer) t.run
    ++ optBytes 4 (fun x => numBytes 2 x.target ++ enumByte x.mode.ctorIdx
        ++ enumByte x.outcome.ctorIdx) t.lastTurn
    ++ optBytes 1 (fun (o : HomeOutcome) => enumByte o.ctorIdx) t.lastHome

/-- One seat as Read Seats gives it (R113). DESIGN CHOICE (log 38): the confirm reading and the confirm
generation are two optional fields. -/
def State.seatBytes (s : State) (i : Fin 8) : List Byte :=
  let x := s.seat i
  enumByte x.state.ctorIdx ++ flagByte x.occupied ++ numBytes 1 x.bar
    ++ optBytes 1 (numBytes 1) x.confirmBar ++ optBytes 2 (numBytes 2) x.confirmGeneration
    ++ optBytes 1 (fun (c : SeatFaultCause) => enumByte c.ctorIdx) x.cause
    ++ optBytes 1 (fun (r : CheckResult) => enumByte r.ctorIdx) x.lastResult
    ++ numBytes 1 x.changes ++ enumByte x.solenoid.ctorIdx ++ optBytes 2 (numBytes 2) x.elapsed
    ++ enumByte x.filtered.ctorIdx ++ enumByte (s.rawReading i).ctorIdx
    ++ flagByte (s.pins.occupancy.getLsbD i)

/-- Read Seats (R113). DESIGN CHOICE (log 18): the body goes seat by seat, all the fields of a seat
before those of the next, and not field by field. -/
def State.seatsBody (s : State) : List Byte :=
  numBytes 1 s.settings.fittedSeatCount ++ each allSeats s.seatBytes

/-- Read Permit (R130). DESIGN CHOICE (log 18, 38): each seat's last result and each remaining time is an
optional field of its own. -/
def Permit.body (p : Permit) : List Byte :=
  enumByte p.state.ctorIdx ++ numBytes 2 p.generation
    ++ numBytes 1 p.fittedMask.toNat ++ numBytes 1 p.passMask.toNat
    ++ each p.results.toList (optBytes 1 fun (r : CheckResult) => enumByte r.ctorIdx)
    ++ optBytes 2 (numBytes 2) p.concurRemaining
    ++ optBytes 2 (numBytes 2) p.consentRemaining
    ++ optBytes 2 (numBytes 2) p.periodWindow
    ++ optBytes 1 flagByte p.lowGiven
    ++ enumByte p.lastLoss.ctorIdx

/-- Read Cue Engine (R152). An empty slot has no fired flag, and its bit in the mask of fired flags is 0
(DESIGN CHOICE, log 42). -/
def CueEngine.body (e : CueEngine) : List Byte :=
  let cues := e.slots.toList
  enumByte e.engine.ctorIdx
    ++ numBytes 1 (cues.filter (·.isSome)).length
    ++ numBytes 8 (maskOf (cues.map (·.isSome)))
    ++ numBytes 8 (maskOf (cues.map fun c => c.any (·.fired)))
    ++ numBytes 2 e.outcomes

/-- An effect pattern in its seven bytes (chapter 11, command summary). -/
def patternWire (b : PatternBytes) : List Byte :=
  [b.mode] ++ numBytes 2 b.onTime.toNat ++ numBytes 2 b.offTime.toNat ++ [b.countOrDuty, b.link]

/-- A channel's pattern as a record of R207 in eight bytes: the fields as R154 orders them with one
byte for count or duty, the optional link behind its presence byte (DESIGN CHOICE, log 35). -/
def Pattern.bytes (x : Pattern) : List Byte :=
  enumByte x.mode.ctorIdx ++ numBytes 2 x.onTime ++ numBytes 2 x.offTime
    ++ numBytes 1 x.countOrDuty ++ optBytes 1 (numBytes 1) x.link

/-- An action record in its ten bytes, unused ones 0 (R134, chapter 11). -/
def CueAction.bytes : CueAction → List Byte
  | .play a => [0, a.voice, a.clip, a.gain, a.fadeIn, a.zones, a.plays, a.hold, a.cut, 0]
  | .stop voice step => [1, voice, step, 0, 0, 0, 0, 0, 0, 0]
  | .gain voice target step => [2, voice, target, step, 0, 0, 0, 0, 0, 0]
  | .zone z target step => [3, z, target, step, 0, 0, 0, 0, 0, 0]
  | .effect channel operation pattern => [4, channel, operation] ++ patternWire pattern
  | .turn target mode => [5] ++ numBytes 2 target.toNat ++ [mode, 0, 0, 0, 0, 0, 0]
  | .sceneHold duration => [6] ++ numBytes 2 duration.toNat ++ [0, 0, 0, 0, 0, 0, 0]

/-- Read Cue (R152): the cue of a slot, or its absence. -/
def cueBody (c : Option Cue) : List Byte :=
  optBytes 12 (fun c => beBytes 4 c.trigger ++ enumByte c.direction.ctorIdx
    ++ optBytes 4 (beBytes 4) c.latest ++ listBytes CueAction.bytes c.actions ++ flagByte c.fired) c

def LogEntry.bytes (e : LogEntry) : List Byte :=
  numBytes 1 e.slot ++ enumByte e.outcome.ctorIdx ++ optBytes 1 (numBytes 1) e.action
    ++ beBytes 4 e.position

/-- Read Cue Log (R152). -/
def CueEngine.logBody (e : CueEngine) : List Byte :=
  listBytes LogEntry.bytes e.log ++ numBytes 2 e.outcomes

/-- One channel as Read Effects gives it (R165), `us` microseconds into the carrier period. -/
def State.channelBytes (s : State) (us : Nat) (c : Fin 12) : List Byte :=
  let x := s.channel c
  enumByte x.state.ctorIdx ++ optBytes 8 Pattern.bytes x.running
    ++ optBytes 2 (numBytes 2) x.interval ++ optBytes 1 (numBytes 1) x.bursts
    ++ optBytes 8 Pattern.bytes x.armed ++ numBytes 1 x.completions
    ++ flagByte (x.output us) ++ flagByte (s.pins.readback.getLsbD c)

/-- Read Effects (R165); the place in the dim carrier is a free value (log 8). DESIGN CHOICE (log 18):
channel by channel, then pair by pair. -/
def State.effectsBody (s : State) : List Byte :=
  let us := s.effects.carrierAt (Config.carrierMicros s.freeCount)
  each allChannels (s.channelBytes us)
    ++ each allPairs (fun p => flagByte (s.exclusive p) ++ numBytes 1 s.effects.conflicts[p])

/-- One voice as Read Sound gives it (R189). -/
def Voice.bytes (x : Voice) : List Byte :=
  enumByte x.state.ctorIdx ++ optBytes 1 (numBytes 1) x.clip ++ numBytes 3 x.cursor
    ++ optBytes 1 (numBytes 1) x.plays ++ numBytes 1 x.gain ++ numBytes 1 x.target
    ++ numBytes 1 x.step ++ numBytes 1 x.zones.toNat ++ enumByte x.hold.ctorIdx
    ++ numBytes 2 x.fifo.length ++ flagByte x.primed ++ flagByte x.starved
    ++ numBytes 1 x.endCount
    ++ optBytes 2 (fun e => numBytes 1 e.clip ++ enumByte e.reason.ctorIdx) x.lastEnd

/-- The mount state: IDLE or MOUNTING. -/
def SoundUnit.mountByte (u : SoundUnit) : List Byte := flagByte u.mount.isSome

/-- Read Sound (R189). DESIGN CHOICE (log 18): voice by voice and zone by zone, all the fields of one
before those of the next. -/
def SoundUnit.body (u : SoundUnit) : List Byte :=
  u.mountByte
    ++ optBytes 5 (fun m => optBytes 1 (numBytes 1) m.toRead ++ numBytes 1 m.next
        ++ numBytes 1 m.valid ++ numBytes 1 m.invalid) u.mount
    ++ optBytes 3 (fun m => enumByte m.outcome.ctorIdx ++ numBytes 1 m.valid
        ++ numBytes 1 m.invalid) u.lastMount
    ++ each u.voice.toList Voice.bytes
    ++ numBytes 1 u.duck
    ++ each u.zone.toList (fun l => numBytes 1 l.current ++ numBytes 1 l.target ++ numBytes 1 l.step)
    ++ each u.zoneClips.toList (numBytes 2)
    ++ optBytes 2 (fun a => enumByte a.cause.ctorIdx ++ enumByte a.outcome.ctorIdx)
        u.lastAnnouncement

/-- Read Clip Table (R189). -/
def SoundUnit.clipsBody (u : SoundUnit) : List Byte :=
  u.mountByte
    ++ listBytes (fun c => numBytes 1 c.id ++ enumByte c.format.ctorIdx ++ numBytes 3 c.start
        ++ numBytes 3 c.length ++ numBytes 3 c.loopStart) u.clips

end Sys2Proof.Machine
end

