-- ==== Sys2Proof/Machine/AxisCommands.lean ====
section
/-! DEFINITION. The commands of the Turntable Axis (chapter 05), the Seat Monitor (chapter 06) and the
Permit Unit (chapter 07), and the bar clock edge. -/

namespace Sys2Proof.Machine

/-- TURN_TO (R84). -/
def takeTurnTo (p : Port) (target : BitVec 16) (mode : Byte) (s : State) : State :=
  s.allowed [.a, .c] p Code.turnTo (·.judged p Code.turnTo (·.turnJudged target mode))

def execTurnTo (p : Port) (target : BitVec 16) (mode : Byte) (s : State) : Result :=
  commandTaken p (takeTurnTo p target mode) s

/-- HOME_TURNTABLE (R88). -/
def takeHomeTurntable (p : Port) (s : State) : State :=
  s.allowed [.a] p Code.homeTurntable (·.judged p Code.homeTurntable (·.homeJudged))

def execHomeTurntable (p : Port) (s : State) : Result := commandTaken p (takeHomeTurntable p) s

/-- READ_TURNTABLE (R92). -/
def takeReadTurntable (p : Port) (s : State) : State :=
  s.respond p Code.readTurntable s.turntableBody

def execReadTurntable (p : Port) (s : State) : Result := commandTaken p (takeReadTurntable p) s

/-- BAR_COUNT_EDGE (R98, R102). -/
def execBarCountEdge (seat : Fin 8) (lowering : Bool) (s : State) : Result :=
  eventTaken (·.barEdge seat lowering) s

/-- RELEASE_BARS (R106, R107). -/
def takeReleaseBars (p : Port) (mask : BitVec 8) (s : State) : State :=
  s.allowed [.a] p Code.releaseBars (·.judged p Code.releaseBars (·.releaseJudged mask))

def execReleaseBars (p : Port) (mask : BitVec 8) (s : State) : Result :=
  commandTaken p (takeReleaseBars p mask) s

/-- CLEAR_SEAT_FAULT (R111). -/
def takeClearSeatFault (p : Port) (mask : BitVec 8) (s : State) : State :=
  s.allowed [.b] p Code.clearSeatFault (·.clearSeats mask)

def execClearSeatFault (p : Port) (mask : BitVec 8) (s : State) : Result :=
  commandTaken p (takeClearSeatFault p mask) s

/-- READ_SEATS (R113), with the seat inputs as they stand. -/
def takeReadSeats (p : Port) (pins : Pins) (s : State) : State :=
  let s := s.withPins pins
  s.respond p Code.readSeats s.seatsBody

def execReadSeats (p : Port) (pins : Pins) (s : State) : Result :=
  commandTaken p (takeReadSeats p pins) s

/-- BEGIN_CHECK (R117). -/
def takeBeginCheck (p : Port) (s : State) : State :=
  s.allowed [.a] p Code.beginCheck (·.judged p Code.beginCheck (·.checkJudged))

def execBeginCheck (p : Port) (s : State) : Result := commandTaken p (takeBeginCheck p) s

/-- CONCUR (R120). -/
def takeConcur (p : Port) (generation : BitVec 16) (mask : BitVec 8) (s : State) : State :=
  s.allowed [.b] p Code.concur (·.concurOp p generation mask)

def execConcur (p : Port) (generation : BitVec 16) (mask : BitVec 8) (s : State) : Result :=
  commandTaken p (takeConcur p generation mask) s

/-- RENEW_CONSENT (R123). -/
def takeRenewConsent (p : Port) (generation : BitVec 16) (s : State) : State :=
  s.allowed [.b] p Code.renewConsent (·.judged p Code.renewConsent (·.renewJudged generation))

def execRenewConsent (p : Port) (generation : BitVec 16) (s : State) : Result :=
  commandTaken p (takeRenewConsent p generation) s

/-- REVOKE_CONSENT (R125). -/
def takeRevokeConsent (p : Port) (s : State) : State :=
  s.allowed [.b] p Code.revokeConsent (·.permitLoss .revoked)

def execRevokeConsent (p : Port) (s : State) : Result := commandTaken p (takeRevokeConsent p) s

/-- READ_PERMIT (R130). -/
def takeReadPermit (p : Port) (s : State) : State := s.respond p Code.readPermit s.permit.body

def execReadPermit (p : Port) (s : State) : Result := commandTaken p (takeReadPermit p) s

end Sys2Proof.Machine
end

