-- ==== Sys2Proof/Machine/MotionCommands.lean ====
section
/-! DEFINITION. The commands of the Motion Generator and the Drive Pulse Unit, and the section resets
(chapters 02, 03, 04, R204). -/

namespace Sys2Proof.Machine

/-- APPEND_LEG (R20). -/
def takeAppendLeg (p : Port) (leg : LegBytes) (s : State) : State :=
  s.allowed [.a] p Code.appendLeg (·.judged p Code.appendLeg (·.appendJudged leg none))

def execAppendLeg (p : Port) (leg : LegBytes) (s : State) : Result :=
  commandTaken p (takeAppendLeg p leg) s

/-- APPEND_SEEK_LEG (R20). -/
def takeAppendSeekLeg (p : Port) (leg : LegBytes) (marker action : Byte) (s : State) : State :=
  s.allowed [.a] p Code.appendSeekLeg
    (·.judged p Code.appendSeekLeg (·.appendJudged leg (some (marker, action))))

def execAppendSeekLeg (p : Port) (leg : LegBytes) (marker action : Byte) (s : State) : Result :=
  commandTaken p (takeAppendSeekLeg p leg marker action) s

/-- FLUSH_LEGS (R22). -/
def takeFlushLegs (p : Port) (s : State) : State :=
  s.allowed [.a] p Code.flushLegs (·.onMotion (·.flushed))

def execFlushLegs (p : Port) (s : State) : Result := commandTaken p (takeFlushLegs p) s

/-- GO (R27). -/
def takeGo (p : Port) (s : State) : State :=
  s.allowed [.a] p Code.go (·.judged p Code.go (·.goJudged))

def execGo (p : Port) (s : State) : Result := commandTaken p (takeGo p) s

/-- HOLD (R61): RIDE from port A, SHOW from port C. -/
def takeHold (p : Port) (s : State) : State :=
  match p with
  | .a => s.addHold fun h => { h with ride := true }
  | .b => s.refuse p .rights Code.hold
  | .c => s.addHold fun h => { h with shows := true }

def execHold (p : Port) (s : State) : Result := commandTaken p (takeHold p) s

/-- RELEASE_HOLD (R62). -/
def takeReleaseHold (p : Port) (reason : Byte) (s : State) : State := s.releaseHoldOp p reason

def execReleaseHold (p : Port) (reason : Byte) (s : State) : Result :=
  commandTaken p (takeReleaseHold p reason) s

/-- SOFT_STOP (R69). -/
def takeSoftStop (p : Port) (s : State) : State :=
  match p with
  | .a => s.softStop .commandA
  | .b => s.softStop .commandB
  | .c => s.refuse p .rights Code.softStop

def execSoftStop (p : Port) (s : State) : Result := commandTaken p (takeSoftStop p) s

/-- A hard stop unless FAULTED, where it has no effect (R71). -/
def State.hardStopUnlessFaulted (cause : StopCause) (s : State) : State :=
  if s.motion.phase = .faulted then s else s.hardStop cause

/-- HARD_STOP (R71). -/
def takeHardStop (p : Port) (s : State) : State :=
  match p with
  | .a => s.hardStopUnlessFaulted .commandA
  | .b => s.hardStopUnlessFaulted .commandB
  | .c => s.refuse p .rights Code.hardStop

def execHardStop (p : Port) (s : State) : Result := commandTaken p (takeHardStop p) s

/-- The fault record, the counts and the conditions cleared (R77). -/
def State.clearFaultJudged (s : State) : Except Reason State :=
  if s.motion.phase ≠ .faulted then .error .state
  else
    let s := (s.onMotion fun m => { m with fault := none, extraFaults := 0 }).enterPhase .idle
    .ok (s.onRoute fun r =>
      { r with errors := ⟨0, 0, 0⟩, conditions := ⟨false, false, false⟩ }).rederive

/-- CLEAR_MOTION_FAULT (R77). -/
def takeClearMotionFault (p : Port) (s : State) : State :=
  s.allowed [.b] p Code.clearMotionFault (·.judged p Code.clearMotionFault (·.clearFaultJudged))

def execClearMotionFault (p : Port) (s : State) : Result := commandTaken p (takeClearMotionFault p) s

/-- READ_MOTION (R42). -/
def takeReadMotion (p : Port) (s : State) : State := s.respond p Code.readMotion s.motion.body

def execReadMotion (p : Port) (s : State) : Result := commandTaken p (takeReadMotion p) s

/-- READ_LEGS (R42). -/
def takeReadLegs (p : Port) (s : State) : State := s.respond p Code.readLegs s.motion.legsBody

def execReadLegs (p : Port) (s : State) : Result := commandTaken p (takeReadLegs p) s

/-- READ_DRIVE (R58), with the alarm inputs as they stand. -/
def takeReadDrive (p : Port) (pins : Pins) (s : State) : State :=
  let s := s.withPins pins
  s.respond p Code.readDrive s.driveBody

def execReadDrive (p : Port) (pins : Pins) (s : State) : Result :=
  commandTaken p (takeReadDrive p pins) s

/-! ## Section resets (R204) -/

/-- The MOTION section reset (R79): in FAULTED the phase is kept and nothing is latched. -/
def State.motionReset (s : State) : State :=
  if s.motion.phase = .faulted then s.stopAll.rederive else s.hardStop .sectionReset

/-- RESET_SECTION_MOTION (R204). -/
def takeResetSectionMotion (p : Port) (s : State) : State :=
  s.allowed [.a] p Code.resetSection (·.motionReset)

def execResetSectionMotion (p : Port) (s : State) : Result :=
  commandTaken p (takeResetSectionMotion p) s

/-- The SHOW section reset (R153, R166, R190). -/
def State.showReset (s : State) : State := ((s.cueReset).effectReset).soundReset

/-- RESET_SECTION_SHOW (R204). -/
def takeResetSectionShow (p : Port) (s : State) : State :=
  s.allowed [.a, .c] p Code.resetSection (·.showReset)

def execResetSectionShow (p : Port) (s : State) : Result := commandTaken p (takeResetSectionShow p) s

end Sys2Proof.Machine
end

