-- ==== Sys2Proof/Machine/RouteOps.lean ====
section
/-! DEFINITION. The Route Counter's operations (chapter 01). -/

namespace Sys2Proof.Machine

/-! ## Encoders -/

/-- The ×4 decoding table (R1): the count of a change, none for an illegal one. A pair that has not
changed counts 0. -/
def quadrature : Bool × Bool → Bool × Bool → Option Int
  | (false, false), (true, false) => some 1
  | (true, false), (true, true) => some 1
  | (true, true), (false, true) => some 1
  | (false, true), (false, false) => some 1
  | (false, false), (false, true) => some (-1)
  | (false, true), (true, true) => some (-1)
  | (true, true), (true, false) => some (-1)
  | (true, false), (false, false) => some (-1)
  | (false, false), (true, true) => none
  | (true, true), (false, false) => none
  | (true, false), (false, true) => none
  | (false, true), (true, false) => none
  | (false, false), (false, false) => some 0
  | (false, true), (false, true) => some 0
  | (true, false), (true, false) => some 0
  | (true, true), (true, true) => some 0

/-- An illegal transition raises the error count, saturating at 255 (R2). -/
def RouteCounter.illegal (i : Axis) (r : RouteCounter) : RouteCounter :=
  { r with errors := r.errors.modify (fun n => min 255 (n + 1)) i }

/-- An encoder's pair takes a new state (R1, R2); the first one seen is taken without counting (R17). -/
def State.encoderMoves (i : Axis) (a b : Bool) (s : State) : State :=
  let old := s.route.previous.get i
  let s := s.onRoute fun r => { r with previous := r.previous.set i (some (a, b)) }
  match old with
  | none => s
  | some p =>
    match quadrature p (a, b) with
    | some n => s.onRoute fun r => { r with delta := r.delta.modify (· + n) i }
    | none => (s.onRoute (·.illegal i)).testEncoders [i]

/-! ## Markers -/

/-- The entry of an id. -/
def RouteCounter.entry (r : RouteCounter) (id : Nat) : Option Marker :=
  r.markers.find? (·.id = id)

/-- A route error as it is recorded: saturated (R11). -/
def recordedError (e : Int) : Int := clampInt Config.positionMin Config.positionMax e

/-- The last marker recorded. -/
def State.recordMarker (id : Nat) (error : Int) (s : State) : State :=
  s.onRoute fun r => { r with lastMarker := some ⟨id, recordedError error⟩ }

/-- The route position set to a marker's, with the jump when it differs (R12, R14). -/
def State.align (position : Int) (s : State) : State :=
  let old := s.route.position
  let s := s.onRoute fun r => { r with position := position }
  if position = old then s else s.jump old position

/-- Mismatch count 0 and position-lost flag clear (R12, R14, R15). -/
def RouteCounter.found (r : RouteCounter) : RouteCounter :=
  { r with mismatches := 0, lost := false }

/-- An accepted arrival (R12). -/
def State.acceptMarker (m : Marker) (error : Int) (s : State) : State :=
  let s := match m.kind with
    | .correct => s.align m.position
    | .check => s
  ((s.onRoute (·.found)).recordMarker m.id error).latch .markerSeen

/-- A mismatch (R13), which at the limit loses the position. -/
def State.mismatchMarker (m : Marker) (error : Int) (s : State) : State :=
  let s := s.onRoute fun r => { r with mismatches := min 7 (r.mismatches + 1) }
  let s := (s.recordMarker m.id error).latch .markerMismatch
  if s.settings.mismatchLimit ≤ s.route.mismatches ∧ s.route.lost = false then
    ((s.onRoute fun r => { r with lost := true }).latch .positionLost).positionLoss
  else s

/-- A known arrival (R11 to R13). -/
def State.knownMarker (m : Marker) (s : State) : State :=
  let error := m.position - s.route.position
  if error.natAbs ≤ m.tolerance then s.acceptMarker m error else s.mismatchMarker m error

/-- A sought arrival (R14), reported to the Motion Generator (R41). -/
def State.soughtMarker (m : Marker) (action : SeekAction) (s : State) : State :=
  let error := m.position - s.route.position
  let s := match action with
    | .align => (s.align m.position).onRoute (·.found)
    | .mark => s.onRoute fun r => { r with markRecord := some ⟨r.position, m.id⟩ }
  ((s.recordMarker m.id error).latch .markerSeen).soughtArrival

/-- The action of the current leg if it seeks this id now (R11). -/
def State.soughtAction (s : State) (id : Nat) : Option SeekAction :=
  match s.motion.current with
  | none => none
  | some c =>
    let running := s.motion.phase = .accel ∨ s.motion.phase = .cruise ∨ s.motion.phase = .decel
    match c.leg.seek with
    | some k => if k.marker = id ∧ running ∧ c.markerTaken = false then some k.action else none
    | none => none

/-- A complete marker frame (R11). -/
def State.arrival (id : Nat) (s : State) : State :=
  match s.route.entry id with
  | none => s.latch .markerUnknown
  | some m =>
    match s.soughtAction id with
    | some action => s.soughtMarker m action
    | none => s.knownMarker m

/-- The idle codes of the marker reader line (R8). -/
def idleCode (b : Byte) : Bool := b = 0 || b = 255

def State.setFramer (f : Option PendingByte) (s : State) : State :=
  s.onRoute fun r => { r with framer := f }

/-- A byte received on the marker reader line (R7, R8). -/
def State.markerByte (b : Byte) (stopHigh : Bool) (s : State) : State :=
  if stopHigh = false then s.setFramer none
  else
    let fresh : Option PendingByte := if idleCode b then none else some ⟨b, some Config.markerGap⟩
    match s.route.framer with
    | none => s.setFramer fresh
    | some p => if b = ~~~p.byte then (s.setFramer none).arrival p.byte.toNat else s.setFramer fresh

/-- A start bit stops the gap timer (R8). -/
def State.gapStops (s : State) : State :=
  s.onRoute fun r => { r with framer := r.framer.map fun p => { p with gap := none } }

/-- The gap timer falls at a motion tick (R8, log 34). -/
def PendingByte.gapFallen (p : PendingByte) : PendingByte := { p with gap := p.gap.map (· - 1) }

/-- The gap timer expires: the pending byte is dropped (R8). Due when the timer stands at 0. -/
def State.gapExpires (s : State) : State :=
  if s.route.framer.any (·.gap = some 0) then s.setFramer none else s

/-! ## The marker table -/

/-- An entry put in its place by id, replacing one with the same id (R9). -/
def insertMarker (m : Marker) : List Marker → List Marker
  | [] => [m]
  | x :: rest =>
    if m.id < x.id then m :: x :: rest
    else if m.id = x.id then m :: rest
    else x :: insertMarker m rest

/-- Load Marker (R9). -/
def State.loadMarkerJudged (id : Byte) (position : BitVec 32) (tolerance : BitVec 16) (kind : Byte)
    (s : State) : Except Reason State :=
  match markerIdOk id, markerKindOf kind with
  | true, some k =>
    if (s.route.entry id.toNat).isNone ∧ Config.markerCapacity ≤ s.route.markers.length then
      .error .full
    else
      .ok (s.onRoute fun r =>
        { r with markers := insertMarker ⟨id.toNat, position.toInt, tolerance.toNat, k⟩ r.markers })
  | _, _ => .error .range

/-- The current leg and the pending legs (R10). -/
def MotionGenerator.legs (m : MotionGenerator) : List Leg :=
  (m.current.map (·.leg)).toList ++ m.queue

/-- Delete Marker (R10). -/
def State.deleteMarkerJudged (id : Byte) (s : State) : Except Reason State :=
  if s.motion.legs.any fun l => l.seek.any (·.marker = id.toNat) then .error .state
  else .ok (s.onRoute fun r => { r with markers := r.markers.filter (·.id ≠ id.toNat) })

/-- Clear Markers (R10). -/
def State.clearMarkersJudged (s : State) : Except Reason State :=
  if s.motion.legs.any (·.seek.isSome) then .error .state
  else .ok (s.onRoute fun r => { r with markers := [] })

/-- Zero Route (R15). -/
def State.zeroRouteJudged (s : State) : Except Reason State :=
  if s.motion.phase ≠ .idle then .error .state
  else .ok (s.onRoute fun r => { r.found with position := 0 }).rearm

/-! ## The motion tick -/

/-- The arrival at an end of the position range from inside (R6), reported before the sample is passed
(log 15). -/
def State.rangeLimit (s : State) : State :=
  let s := if s.route.lost then s
    else (s.onRoute fun r => { r with lost := true }).latch .positionLost
  s.report .positionRange

/-- The route position takes the wheels' deltas (R5, R6) and the sample goes to the Cue Engine. -/
def State.routeTick (left right : Int) (s : State) : State :=
  let before := s.route.position
  let sum := before + left + right
  let now := clampInt Config.positionMin Config.positionMax sum
  let s := s.onRoute fun r => { r with position := now }
  let s := if sum ≠ now ∧ before ≠ now then s.rangeLimit else s
  s.sample before now

end Sys2Proof.Machine
end

