-- ==== Sys2Proof/Machine/RouteCommands.lean ====
section
/-! DEFINITION. The commands and line events of the Route Counter (chapter 01). A `take…` is a command's
effect, an `exec…` the row's meaning. -/

namespace Sys2Proof.Machine

/-- LOAD_MARKER (R9). -/
def takeLoadMarker (p : Port) (id : Byte) (position : BitVec 32) (tolerance : BitVec 16) (kind : Byte)
    (s : State) : State :=
  s.allowed [.a] p Code.loadMarker
    (·.judged p Code.loadMarker (·.loadMarkerJudged id position tolerance kind))

def execLoadMarker (p : Port) (id : Byte) (position : BitVec 32) (tolerance : BitVec 16)
    (kind : Byte) (s : State) : Result :=
  commandTaken p (takeLoadMarker p id position tolerance kind) s

/-- DELETE_MARKER (R10). -/
def takeDeleteMarker (p : Port) (id : Byte) (s : State) : State :=
  s.allowed [.a] p Code.deleteMarker (·.judged p Code.deleteMarker (·.deleteMarkerJudged id))

def execDeleteMarker (p : Port) (id : Byte) (s : State) : Result :=
  commandTaken p (takeDeleteMarker p id) s

/-- CLEAR_MARKERS (R10). -/
def takeClearMarkers (p : Port) (s : State) : State :=
  s.allowed [.a] p Code.clearMarkers (·.judged p Code.clearMarkers (·.clearMarkersJudged))

def execClearMarkers (p : Port) (s : State) : Result := commandTaken p (takeClearMarkers p) s

/-- ZERO_ROUTE (R15). -/
def takeZeroRoute (p : Port) (s : State) : State :=
  s.allowed [.a] p Code.zeroRoute (·.judged p Code.zeroRoute (·.zeroRouteJudged))

def execZeroRoute (p : Port) (s : State) : Result := commandTaken p (takeZeroRoute p) s

/-- READ_ROUTE (R16). -/
def takeReadRoute (p : Port) (s : State) : State := s.respond p Code.readRoute s.route.body

def execReadRoute (p : Port) (s : State) : Result := commandTaken p (takeReadRoute p) s

/-- READ_MARKER (R16). -/
def takeReadMarker (p : Port) (id : Byte) (s : State) : State :=
  s.respond p Code.readMarker (markerBody (s.route.entry id.toNat))

def execReadMarker (p : Port) (id : Byte) (s : State) : Result :=
  commandTaken p (takeReadMarker p id) s

/-- READ_MARKER_LIST (R16). -/
def takeReadMarkerList (p : Port) (s : State) : State :=
  s.respond p Code.readMarkerList s.route.listBody

def execReadMarkerList (p : Port) (s : State) : Result := commandTaken p (takeReadMarkerList p) s

/-- ENCODER_TRANSITION (R1, R2). -/
def execEncoderTransition (i : Axis) (a b : Bool) (s : State) : Result :=
  eventTaken (·.encoderMoves i a b) s

/-- TURNTABLE_INDEX (R3, R89). -/
def execTurntableIndex (s : State) : Result := eventTaken (·.indexEvent) s

/-- MARKER_BYTE_RECEIVED (R7, R8, R11). -/
def execMarkerByteReceived (byte : Byte) (stopHigh : Bool) (s : State) : Result :=
  eventTaken (·.markerByte byte stopHigh) s

/-- MARKER_GAP_EXPIRY (R8). -/
def execMarkerGapExpiry (s : State) : Result := eventTaken (·.gapExpires) s

/-- START_BIT (R8). -/
def execStartBit (s : State) : Result := eventTaken (·.gapStops) s

end Sys2Proof.Machine
end

