-- ==== Sys2Proof/Machine/SettingCommands.lean ====
section
/-! DEFINITION. Read Setting and the rows of Write Setting (R202, R203). Every write is judged by
`State.writeJudged` for its number; the rows differ in the settings they name. -/

namespace Sys2Proof.Machine

/-- READ_SETTING (R203). -/
def takeReadSetting (p : Port) (number : Byte) (s : State) : State :=
  match settingOf number.toNat with
  | some st => s.respond p Code.readSetting (s.settingBody number st)
  | none => s.refuse p .range Code.readSetting

def execReadSetting (p : Port) (number : Byte) (s : State) : Result :=
  commandTaken p (takeReadSetting p number) s

/-- Write Setting of a number (R202). -/
def takeWriteSetting (p : Port) (number : Nat) (value : BitVec 32) (s : State) : State :=
  s.judged p Code.writeSetting (·.writeJudged p number value.toNat)

/-- WRITE_SETTING (R202). -/
def execWriteSetting (p : Port) (number : Byte) (value : BitVec 32) (s : State) : Result :=
  commandTaken p (takeWriteSetting p number.toNat value) s

/-- WRITE_EVENT_MASK (R199). -/
def execWriteEventMask (p which : Port) (value : BitVec 32) (s : State) : Result :=
  commandTaken p (takeWriteSetting p (Setting.eventMask which).number value) s

/-- WRITE_PHASE_WATCH_SET (R200). -/
def execWritePhaseWatchSet (p which : Port) (value : BitVec 32) (s : State) : Result :=
  commandTaken p (takeWriteSetting p (Setting.watchSet which).number value) s

/-- WRITE_ENCODER_ERROR_LIMIT (R2, R18). -/
def execWriteEncoderErrorLimit (p : Port) (value : BitVec 32) (s : State) : Result :=
  commandTaken p (takeWriteSetting p Setting.encoderErrorLimit.number value) s

/-- The setting a ramp write names (R23). -/
def rampSetting : RampEntry → Setting
  | .count => .rampCount
  | .step k => .rampStep k

/-- WRITE_RAMP_TABLE (R23). -/
def execWriteRampTable (p : Port) (entry : RampEntry) (value : BitVec 32) (s : State) : Result :=
  commandTaken p (takeWriteSetting p (rampSetting entry).number value) s

/-- WRITE_TURNTABLE_COUNTS_PER_REVOLUTION (R81). -/
def execWriteTurntableCountsPerRevolution (p : Port) (value : BitVec 32) (s : State) : Result :=
  commandTaken p (takeWriteSetting p Setting.countsPerRevolution.number value) s

/-- WRITE_TURNTABLE_STEP (R83). -/
def execWriteTurntableStep (p : Port) (k : Fin 4) (value : BitVec 32) (s : State) : Result :=
  commandTaken p (takeWriteSetting p (Setting.turntableStep k).number value) s

/-- WRITE_FITTED_SEAT_COUNT (R94). -/
def execWriteFittedSeatCount (p : Port) (value : BitVec 32) (s : State) : Result :=
  commandTaken p (takeWriteSetting p Setting.fittedSeatCount.number value) s

/-- WRITE_EXCLUSIVE_PAIR_MASK (R160). -/
def execWriteExclusivePairMask (p : Port) (value : BitVec 32) (s : State) : Result :=
  commandTaken p (takeWriteSetting p Setting.exclusivePairMask.number value) s

end Sys2Proof.Machine
end

