-- ==== Sys2Proof/Machine/ShowCommands.lean ====
section
/-! DEFINITION. The commands of the Cue Engine (chapter 08) and the Effect Timer Bank (chapter 09). -/

namespace Sys2Proof.Machine

/-- LOAD_CUE (R133). -/
def takeLoadCue (p : Port) (cue : CueBytes) (s : State) : State :=
  s.allowed [.c] p Code.loadCue (·.judged p Code.loadCue (·.loadCueJudged cue))

def execLoadCue (p : Port) (cue : CueBytes) (s : State) : Result :=
  commandTaken p (takeLoadCue p cue) s

/-- DELETE_CUE (R135). -/
def takeDeleteCue (p : Port) (slot : Byte) (s : State) : State :=
  s.allowed [.c] p Code.deleteCue (·.judged p Code.deleteCue (·.deleteCueJudged slot))

def execDeleteCue (p : Port) (slot : Byte) (s : State) : Result :=
  commandTaken p (takeDeleteCue p slot) s

/-- ARM_CUES (R137). -/
def takeArmCues (p : Port) (s : State) : State :=
  s.allowed [.c] p Code.armCues (·.setEngine .armed)

def execArmCues (p : Port) (s : State) : Result := commandTaken p (takeArmCues p) s

/-- DISARM_CUES (R137). -/
def takeDisarmCues (p : Port) (s : State) : State :=
  s.allowed [.c] p Code.disarmCues (·.setEngine .disarmed)

def execDisarmCues (p : Port) (s : State) : Result := commandTaken p (takeDisarmCues p) s

/-- FIRE_CUE (R146). -/
def takeFireCue (p : Port) (slot : Byte) (s : State) : State :=
  s.allowed [.c] p Code.fireCue (·.judged p Code.fireCue (·.fireCueJudged slot))

def execFireCue (p : Port) (slot : Byte) (s : State) : Result := commandTaken p (takeFireCue p slot) s

/-- READ_CUE_ENGINE (R152). -/
def takeReadCueEngine (p : Port) (s : State) : State := s.respond p Code.readCueEngine s.cues.body

def execReadCueEngine (p : Port) (s : State) : Result := commandTaken p (takeReadCueEngine p) s

/-- READ_CUE (R152). -/
def takeReadCue (p : Port) (slot : Byte) (s : State) : State :=
  match finOf 64 slot with
  | some i => s.respond p Code.readCue (cueBody (s.slot i))
  | none => s.refuse p .range Code.readCue

def execReadCue (p : Port) (slot : Byte) (s : State) : Result := commandTaken p (takeReadCue p slot) s

/-- READ_CUE_LOG (R152). -/
def takeReadCueLog (p : Port) (s : State) : State := s.respond p Code.readCueLog s.cues.logBody

def execReadCueLog (p : Port) (s : State) : Result := commandTaken p (takeReadCueLog p) s

/-- SET_EFFECT_START (R157). -/
def takeSetEffectStart (p : Port) (channel : Byte) (pattern : PatternBytes) (s : State) : State :=
  s.allowed [.c] p Code.setEffect (·.judged p Code.setEffect (·.startJudged channel pattern))

def execSetEffectStart (p : Port) (channel : Byte) (pattern : PatternBytes) (s : State) : Result :=
  commandTaken p (takeSetEffectStart p channel pattern) s

/-- SET_EFFECT_ARM (R157). -/
def takeSetEffectArm (p : Port) (channel : Byte) (pattern : PatternBytes) (s : State) : State :=
  s.allowed [.c] p Code.setEffect (·.judged p Code.setEffect (·.armJudged channel pattern))

def execSetEffectArm (p : Port) (channel : Byte) (pattern : PatternBytes) (s : State) : Result :=
  commandTaken p (takeSetEffectArm p channel pattern) s

/-- SET_EFFECT_OFF (R157); the pattern it carries is not read. -/
def takeSetEffectOff (p : Port) (channel : Byte) (s : State) : State :=
  s.allowed [.c] p Code.setEffect (·.judged p Code.setEffect (·.offJudged channel))

def execSetEffectOff (p : Port) (channel : Byte) (_pattern : PatternBytes) (s : State) : Result :=
  commandTaken p (takeSetEffectOff p channel) s

/-- Clear Effect Lockout (R162). -/
def State.clearLockoutJudged (pair : Byte) (s : State) : Except Reason State :=
  match finOf 6 pair with
  | none => .error .range
  | some q =>
    if s.lockedOut q then
      let off (c : Fin 12) (s : State) : State := s.setChannel c { s.channel c with state := .off }
      .ok ((off (upperOf q) (off (lowerOf q) s)).onEffects fun b =>
        { b with conflicts := b.conflicts.set q 0 })
    else .ok s

/-- CLEAR_EFFECT_LOCKOUT (R162). -/
def takeClearEffectLockout (p : Port) (pair : Byte) (s : State) : State :=
  s.allowed [.c] p Code.clearEffectLockout
    (·.judged p Code.clearEffectLockout (·.clearLockoutJudged pair))

def execClearEffectLockout (p : Port) (pair : Byte) (s : State) : Result :=
  commandTaken p (takeClearEffectLockout p pair) s

/-- READ_EFFECTS (R165), with the readbacks as they stand; the place in the dim carrier is a free value
(log 8). -/
def takeReadEffects (p : Port) (pins : Pins) (s : State) : State :=
  let s := s.withPins pins
  (s.respond p Code.readEffects s.effectsBody).spendFree 1

def execReadEffects (p : Port) (pins : Pins) (s : State) : Result :=
  commandTaken p (takeReadEffects p pins) s

end Sys2Proof.Machine
end

