-- ==== Sys2Proof/Machine/SoundCommands.lean ====
section
/-! DEFINITION. The commands of the Sound Unit, its flash port and its sample period (chapter 10). -/

namespace Sys2Proof.Machine

/-! ## Commands -/

/-- Mount Clips (R169). -/
def State.mountJudged (s : State) : Except Reason State :=
  if s.sound.mount.isSome ∨ (allVoices.any fun v => (s.voice v).state ≠ .idle) then .error .busy
  else
    .ok (s.onSound fun u =>
      { u with clips := [], mountRequest := true,
               mount := some { toRead := none, next := 0, valid := 0, invalid := 0,
                               flashSize := s.settings.flashSize } })

/-- MOUNT_CLIPS (R169). -/
def takeMountClips (p : Port) (s : State) : State :=
  s.allowed [.c] p Code.mountClips (·.judged p Code.mountClips (·.mountJudged))

def execMountClips (p : Port) (s : State) : Result := commandTaken p (takeMountClips p) s

/-- The ports that may command a voice (R172 test 1): C, and A and B for voice 5. -/
def voicePorts (voice : Byte) : List Port := if voice.toNat = 5 then [.a, .b, .c] else [.c]

/-- PLAY (R172, R173). -/
def takePlay (p : Port) (args : PlayBytes) (s : State) : State :=
  s.allowed (voicePorts args.voice) p Code.play (·.judged p Code.play (·.playJudged args))

def execPlay (p : Port) (args : PlayBytes) (s : State) : Result := commandTaken p (takePlay p args) s

/-- STOP_VOICE (R174). -/
def takeStopVoice (p : Port) (voice step : Byte) (s : State) : State :=
  s.allowed (voicePorts voice) p Code.stopVoice (·.judged p Code.stopVoice (·.stopJudged voice step))

def execStopVoice (p : Port) (voice step : Byte) (s : State) : Result :=
  commandTaken p (takeStopVoice p voice step) s

/-- SET_VOICE_GAIN (R175). -/
def takeSetVoiceGain (p : Port) (voice target step : Byte) (s : State) : State :=
  s.allowed (voicePorts voice) p Code.setVoiceGain
    (·.judged p Code.setVoiceGain (·.gainJudged voice target step))

def execSetVoiceGain (p : Port) (voice target step : Byte) (s : State) : Result :=
  commandTaken p (takeSetVoiceGain p voice target step) s

/-- SET_ZONE_LEVEL (R183). -/
def takeSetZoneLevel (p : Port) (zone target step : Byte) (s : State) : State :=
  s.allowed [.c] p Code.setZoneLevel (·.judged p Code.setZoneLevel (·.zoneJudged zone target step))

def execSetZoneLevel (p : Port) (zone target step : Byte) (s : State) : Result :=
  commandTaken p (takeSetZoneLevel p zone target step) s

/-- READ_SOUND (R189), which then clears the zone clip counters. -/
def takeReadSound (p : Port) (s : State) : State :=
  (s.respond p Code.readSound s.sound.body).onSound fun u =>
    { u with zoneClips := Vector.replicate 4 0 }

def execReadSound (p : Port) (s : State) : Result := commandTaken p (takeReadSound p) s

/-- READ_CLIP_TABLE (R189). -/
def takeReadClipTable (p : Port) (s : State) : State :=
  s.respond p Code.readClipTable s.sound.clipsBody

def execReadClipTable (p : Port) (s : State) : Result := commandTaken p (takeReadClipTable p) s

/-! ## Flash port -/

/-- Whether a voice's refill request is pending (R179). -/
def State.refillPending (s : State) (v : Fin 6) : Bool :=
  let x := s.voice v
  x.state != .idle && decide (x.fifo.length < Config.refillSamples) && !x.fetchDone
    && !x.refillInFlight && (s.clipOn v).isSome

/-- Voices 0 to 4 in the order the arbiter tries them after the last served (R180). -/
def arbiterOrder (last : Nat) : List (Fin 6) :=
  [1, 2, 3, 4, 5].map fun k => ⟨(last + k) % 5, by omega⟩

/-- The voice the arbiter grants, if no mount read is pending (R180). -/
def State.nextRefill (s : State) : Option (Fin 6) :=
  if s.refillPending announcer then some announcer
  else (arbiterOrder s.sound.lastServed).find? s.refillPending

/-- The mount read that is due (R168, R170): the header, or the next entry. -/
def MountProgress.read (m : MountProgress) : FlashRead :=
  match m.toRead with
  | none => { owner := .mount, address := 0, bytes := 3, samples := 0, arrived := 0 }
  | some _ => { owner := .mount, address := 3 + 12 * m.next, bytes := 12, samples := 0, arrived := 0 }

/-- The refill read of a voice (R179). -/
def refillRead (v : Fin 6) (c : Clip) (x : Voice) : FlashRead :=
  let n := min Config.refillSamples (c.length - x.fetchPosition)
  { owner := .voice v, address := c.start + x.fetchPosition * c.format.bytesPerSample,
    bytes := n * c.format.bytesPerSample, samples := n, arrived := 0 }

/-- A grant to a voice (R179, R180). -/
def State.grantRefill (v : Fin 6) (s : State) : State :=
  match s.clipOn v with
  | none => s
  | some c =>
    let x := s.voice v
    (s.setVoice v { x with refillInFlight := true }).onSound fun u =>
      { u with flash := some (refillRead v c x),
               lastServed := if v.val < 5 then v.val else u.lastServed }

/-- The flash arbiter's grant (R180), due while the port is free and a request is pending. -/
def State.grantFlash (s : State) : State :=
  match s.sound.flash, s.sound.mountRequest, s.sound.mount with
  | some _, _, _ => s
  | none, true, some m => s.onSound fun u => { u with flash := some m.read, mountRequest := false }
  | none, _, _ =>
    match s.nextRefill with
    | some v => s.grantRefill v
    | none => s

/-- FLASH_GRANT (R180). -/
def execFlashGrant (s : State) : Result := eventTaken (·.grantFlash) s

/-- The conversion of a sample (R184); an 8-bit format reads the first byte only. -/
def convertSample (f : ClipFormat) (first second : Byte) : Int :=
  match f with
  | .pcm16 => (second ++ first : BitVec 16).toInt
  | .pcm8u => ((first.toNat : Int) - 128) * 256
  | .pcm8s => first.toInt * 256

/-- A sample enters a voice's FIFO (R179, R181). -/
def Voice.fed (x : Int) (v : Voice) : Voice :=
  { v with fifo := v.fifo ++ [x], primed := true, starved := false }

/-- A refill's next sample arrives (R179), due while a refill has samples to come. -/
def State.sampleArrives (first second : Byte) (s : State) : State :=
  match s.sound.flash with
  | some r =>
    match r.owner with
    | .voice v =>
      match s.clipOn v with
      | some c =>
        if r.arrived < r.samples then
          (s.setVoice v ((s.voice v).fed (convertSample c.format first second))).onSound fun u =>
            { u with flash := some { r with arrived := r.arrived + 1 } }
        else s
      | none => s
    | .mount => s
  | none => s

/-- REFILL_SAMPLE_ARRIVES (R179, R181, R184). -/
def execRefillSampleArrives (first second : Byte) (s : State) : Result :=
  eventTaken (·.sampleArrives first second) s

/-- The fetch position after a refill (R179). -/
def Voice.refilled (c : Clip) (samples : Nat) (x : Voice) : Voice :=
  let x := { x with refillInFlight := false, fetchPosition := x.fetchPosition + samples }
  if x.fetchPosition = c.length then
    let passes := x.fetchPasses.getD 1
    if 1 < passes then
      { x with fetchPosition := c.loopStart,
               fetchPasses := some (if passes = 255 then 255 else passes - 1) }
    else { x with fetchDone := true }
  else x

/-- The end of a refill (R179), due when all its samples have arrived. -/
def State.refillEnds (s : State) : State :=
  match s.sound.flash with
  | some r =>
    match r.owner with
    | .voice v =>
      match s.clipOn v with
      | some c =>
        if r.arrived = r.samples then
          (s.setVoice v ((s.voice v).refilled c r.samples)).onSound fun u => { u with flash := none }
        else s
      | none => s
    | .mount => s
  | none => s

/-- REFILL_DONE (R179). -/
def execRefillDone (s : State) : Result := eventTaken (·.refillEnds) s

/-! ## Mount -/

/-- Three bytes of an entry, most significant first (R168). -/
def bytes3 (a b c : Byte) : Nat := a.toNat * 65536 + b.toNat * 256 + c.toNat

/-- An entry judged (R168): the clip of a valid entry. -/
def clipOfEntry (flashSize : Nat) (e : Vector Byte 12) : Option Clip :=
  let format : Option ClipFormat :=
    match e[1].toNat with
    | 1 => some .pcm16
    | 2 => some .pcm8u
    | 3 => some .pcm8s
    | _ => none
  match format with
  | none => none
  | some f =>
    let c : Clip :=
      { id := e[0].toNat, format := f, start := bytes3 e[2] e[3] e[4],
        length := bytes3 e[5] e[6] e[7], loopStart := bytes3 e[8] e[9] e[10] }
    if c.id ≠ 0 ∧ c.length ≠ 0 ∧ c.loopStart < c.length
        ∧ c.start + c.length * f.bytesPerSample ≤ flashSize * 1048576 then some c
    else none

/-- A clip put in its place by id. -/
def insertClip (c : Clip) : List Clip → List Clip
  | [] => [c]
  | x :: rest => if c.id < x.id then c :: x :: rest else x :: insertClip c rest

/-- The end of a mount (R170). -/
def State.mountEnds (o : MountOutcome) (valid invalid : Nat) (s : State) : State :=
  (s.onSound fun u =>
    { u with mount := none, mountRequest := false, lastMount := some ⟨o, valid, invalid⟩ }).latch
    .mountDone

/-- The header read ends (R170). -/
def State.headerRead (m : MountProgress) (b : Vector Byte 12) (s : State) : State :=
  if b[0] = 0xC5 ∧ b[1] = 0x3A ∧ b[2] ≠ 0 then
    s.onSound fun u =>
      { u with mount := some { m with toRead := some b[2].toNat }, mountRequest := true }
  else s.mountEnds .badDirectory 0 0

/-- An entry judged against the table so far (R170): the new table and the new counts. -/
def MountProgress.judgeEntry (m : MountProgress) (table : List Clip) (b : Vector Byte 12) :
    List Clip × MountProgress :=
  match clipOfEntry m.flashSize b with
  | some c =>
    if table.any (·.id = c.id) then
      (table, { m with invalid := m.invalid + 1, next := m.next + 1 })
    else (insertClip c table, { m with valid := m.valid + 1, next := m.next + 1 })
  | none => (table, { m with invalid := m.invalid + 1, next := m.next + 1 })

/-- An entry read ends (R170). -/
def State.entryRead (m : MountProgress) (count : Nat) (b : Vector Byte 12) (s : State) : State :=
  let (table, m) := m.judgeEntry s.sound.clips b
  if m.next < count then
    s.onSound fun u => { u with clips := table, mount := some m, mountRequest := true }
  else (s.onSound fun u => { u with clips := table }).mountEnds .done m.valid m.invalid

/-- The end of a mount read (R170), due while the mount holds the port; of the header only the first
three bytes are used. -/
def State.mountRead (b : Vector Byte 12) (s : State) : State :=
  match s.sound.flash, s.sound.mount with
  | some r, some m =>
    if r.owner = .mount then
      let s := s.onSound fun u => { u with flash := none }
      match m.toRead with
      | none => s.headerRead m b
      | some count => s.entryRead m count b
    else s
  | _, _ => s

/-- MOUNT_READ_DONE (R170). -/
def execMountReadDone (bytes : Vector Byte 12) (s : State) : Result :=
  eventTaken (·.mountRead bytes) s

/-! ## The sample period -/

/-- Whether a voice takes a sample in this period (R184). -/
def Voice.takes (x : Voice) : Bool :=
  (x.state = .playing || x.state = .fadingOut) && x.primed && !x.fifo.isEmpty

/-- Whether a voice is found starved in this period (R181). -/
def Voice.starves (x : Voice) : Bool :=
  (x.state = .playing || x.state = .fadingOut) && x.primed && x.fifo.isEmpty && !x.fetchDone

/-- The effective gain of a voice (R184). -/
def State.effectiveGain (s : State) (v : Fin 6) : Nat :=
  if v ≠ announcer ∧ (s.voice announcer).state = .playing then min (s.voice v).gain s.sound.duck
  else (s.voice v).gain

/-- What a voice adds to a zone (R184 step 1). -/
def State.contribution (s : State) (z : Fin 4) (v : Fin 6) : Int :=
  let x := s.voice v
  if x.takes && x.zones.getLsbD z then x.fifo.head?.getD 0 * s.effectiveGain v else 0

/-- The mix of a zone before saturation (R184). -/
def State.mixOf (s : State) (z : Fin 4) : Int :=
  let acc := (allVoices.map (s.contribution z)).sum
  (acc / 128) * s.sound.zone[z].current / 128

/-- A sample saturated to 16 bits (R185). -/
def saturate16 (u : Int) : Int := clampInt (-32768) 32767 u

/-- A zone's output sample and clip counter (R185), from the state at the start of the period. -/
def State.formZone (mixed : State) (s : State) (z : Fin 4) : State :=
  let u := mixed.mixOf z
  let out := saturate16 u
  s.onSound fun x =>
    let clips := if out = u then x.zoneClips[z] else min 65535 (x.zoneClips[z] + 1)
    { x with formed := x.formed.set z out, zoneClips := x.zoneClips.set z clips }

/-- A voice's part of a sample period (R177, R181, R184). -/
def State.voiceSample (s : State) (v : Fin 6) : State :=
  let x := s.voice v
  if x.takes then s.setVoice v { x with fifo := x.fifo.drop 1, cursor := x.cursor + 1 }
  else if x.starves then
    let t := s.setVoice v { x with starved := true }
    if x.starved then t else t.latch .voiceStarved
  else s

/-- A completed pass (R177), due when the cursor equals the clip's length. -/
def State.clipPassEnd (v : Fin 6) (s : State) : State :=
  let x := s.voice v
  match s.clipOn v with
  | some c =>
    if x.state ≠ .idle ∧ x.cursor = c.length then
      let plays := x.plays.getD 1
      if 1 < plays then
        s.setVoice v { x with cursor := c.loopStart,
                              plays := some (if plays = 255 then 255 else plays - 1) }
      else s.endVoice v .finished
    else s
  | none => s

/-- CLIP_PASS_END (R177). -/
def execClipPassEnd (voice : Fin 6) (s : State) : Result := eventTaken (·.clipPassEnd voice) s

/-- The ends that fall in sample periods. -/
def State.settleSamples (s : State) : State := allVoices.foldl (fun s v => s.clipPassEnd v) s

/-- One audio sample period (R184, R185): the sample formed before is sent, the zones are mixed and the
voices move on. -/
def State.samplePeriod (ends : Ends) (s : State) : State :=
  let s := s.settleSamples
  let t := s.onSound fun u => { u with sent := u.formed }
  let t := allVoices.foldl State.voiceSample (allZones.foldl (State.formZone s) t)
  if ends = .inTick then t.settleSamples else t

/-- AUDIO_SAMPLE_PERIOD (R184). -/
def execAudioSamplePeriod (ends : Ends) (s : State) : Result := eventTaken (·.samplePeriod ends) s

/-! ## The motion tick -/

/-- A fade at its end (R176), due when a tick has left a FADING_OUT voice's gain at 0. -/
def State.fadeEnd (v : Fin 6) (s : State) : State :=
  let x := s.voice v
  if x.fadeDue ∧ x.state = .fadingOut ∧ x.gain = 0 then
    s.endVoice v (if x.fade = some .showStop then .showStop else .stop)
  else s

/-- FADE_END (R176). -/
def execFadeEnd (voice : Fin 6) (s : State) : Result := eventTaken (·.fadeEnd voice) s

/-- Hold behaviour (R178) and the gain ramp (R176) of one voice. -/
def Voice.ticked (held : Bool) (x : Voice) : Voice :=
  let x :=
    if held ∧ x.state = .playing ∧ x.hold = .pauseOnHold then
      { x with state := .paused, starved := false }
    else if held = false ∧ x.state = .paused then { x with state := .playing }
    else x
  if x.state = .idle then x
  else
    let gain := approach x.step x.target x.gain
    { x with gain := gain, fadeDue := x.state = .fadingOut ∧ gain = 0 }

/-- The duck ceiling moves (R182). -/
def duckMoved (set : Settings) (announcing : Bool) (c : Nat) : Nat :=
  if announcing then approach set.duckStep set.duckLevel c else approach set.duckStep 255 c

def ZoneLevel.ticked (l : ZoneLevel) : ZoneLevel :=
  { l with current := approach l.step l.target l.current }

/-- The Sound Unit's part of a motion tick (R176, R178, R182, R183). -/
def State.soundTick (s : State) : State :=
  let held : Bool := s.motion.phase = .held
  let s := s.onSound fun u => { u with heldSeen := held }
  let s := allVoices.foldl (fun s v => s.setVoice v ((s.voice v).ticked held)) s
  let announcing : Bool := (s.voice announcer).state = .playing
  s.onSound fun u =>
    let level (z : Vector ZoneLevel 4) (i : Fin 4) : Vector ZoneLevel 4 := z.set i z[i].ticked
    { u with duck := duckMoved s.settings announcing u.duck, zone := allZones.foldl level u.zone }

end Sys2Proof.Machine
end

