-- ==== Sys2Proof/Machine/Frames.lean ====
section
/-! DEFINITION. The bytes of the command ports (R191 to R195): reading a command from its bytes, writing
it as bytes, taking it, and the rows FRAME_START, BYTE_SLOT, CS_RISE, UNKNOWN_CODE, NOP and
READ_STATUS. -/

namespace Sys2Proof.Machine

/-! ## Rows of the ports themselves -/

/-- NOP (R201): no effect of its own. -/
def takeNop (s : State) : State := s

def execNop (p : Port) (s : State) : Result := commandTaken p takeNop s

/-- READ_STATUS (R198): snapshot, then the set is emptied and ATTN re-derived. -/
def takeReadStatus (p : Port) (s : State) : State :=
  (s.respond p Code.readStatus (s.ports.get p).statusBody).onPort p fun x =>
    { x with events := 0 }.rederiveAttn

def execReadStatus (p : Port) (s : State) : Result := commandTaken p (takeReadStatus p) s

/-- A framer that decodes no more of its frame (R192, R196). -/
def PortState.voided (x : PortState) : PortState :=
  match x.framer with
  | .deselected => x
  | _ => { x with framer := .void, inProgress := none }

/-- An unknown code (R196). -/
def State.unknown (p : Port) (code : Byte) (s : State) : State :=
  (s.refuse p .unknown code).onPort p (·.voided)

/-- UNKNOWN_CODE (R192, R196), at the end of its slot. -/
def execUnknownCode (p : Port) (code : Byte) (s : State) : Result :=
  eventTaken (fun s => (s.unknown p code).onPort p (·.slotBegun)) s

/-- A fall of CS begins a frame (R192); a port that waits for a rise takes none (R206). -/
def PortState.frameBegun (x : PortState) : PortState :=
  if x.framer = .deselected ∧ x.waitRise = false then
    { x with framer := .awaitCode, inProgress := none }.slotBegun
  else x

/-- FRAME_START (R192). -/
def execFrameStart (p : Port) (s : State) : Result :=
  eventTaken (·.onPort p (·.frameBegun)) s

/-- The end of a frame on its port (R195). -/
def PortState.frameEnded (x : PortState) : PortState :=
  { x with framer := .deselected, inProgress := none, response := none, sdo := 0 }

/-- A rise of CS (R195); after a RESET with CS low it only ends the wait (R206). -/
def State.csRises (p : Port) (s : State) : State :=
  let x := s.ports.get p
  if x.waitRise then s.onPort p fun x => { x with waitRise := false }
  else
    let s := match x.framer, x.inProgress with
      | .arguments, some c => s.refuse p .incomplete c.code
      | _, _ => s
    s.onPort p (·.frameEnded)

/-- CS_RISE (R195). -/
def execCsRise (p : Port) (s : State) : Result := eventTaken (·.csRises p) s

/-! ## Commands as bytes -/

def half (a b : Byte) : BitVec 16 := a ++ b
def triple (a b c : Byte) : BitVec 24 := a ++ b ++ c
def quad (a b c d : Byte) : BitVec 32 := a ++ b ++ c ++ d

/-- The seven bytes of a pattern, and the eleven of a leg (chapter 11, command summary). -/
def patternRead (m t1 t0 o1 o0 n l : Byte) : PatternBytes := ⟨m, half t1 t0, half o1 o0, n, l⟩
def legRead (d l2 l1 l0 k s1 s0 f w1 w0 g : Byte) : LegBytes :=
  ⟨d, triple l2 l1 l0, k, half s1 s0, f, half w1 w0, g⟩

/-- Records of ten bytes, none when bytes are left over. -/
def records : List Byte → Option (List (Vector Byte 10))
  | [] => some []
  | a :: b :: c :: d :: e :: f :: g :: h :: i :: j :: rest =>
    (records rest).map (#v[a, b, c, d, e, f, g, h, i, j] :: ·)
  | _ => none

/-- The row of a Write Setting by its number: the settings with a row of their own, then the rest. -/
def writeRow (p : Port) (number : Byte) (value : BitVec 32) : Instr :=
  match settingOf number.toNat with
  | some (.eventMask q) => .writeEventMask p q value
  | some (.watchSet q) => .writePhaseWatchSet p q value
  | some .encoderErrorLimit => .writeEncoderErrorLimit p value
  | some .rampCount => .writeRampTable p .count value
  | some (.rampStep k) => .writeRampTable p (.step k) value
  | some .countsPerRevolution => .writeTurntableCountsPerRevolution p value
  | some (.turntableStep k) => .writeTurntableStep p k value
  | some .fittedSeatCount => .writeFittedSeatCount p value
  | some .exclusivePairMask => .writeExclusivePairMask p value
  | _ => .writeSetting p number value

/-- Reset Section by its section byte, none for a byte that is neither. -/
def resetRow (p : Port) (section_ : Byte) : Option Instr :=
  match section_.toNat with
  | 0 => some (.resetSectionMotion p)
  | 1 => some (.resetSectionShow p)
  | _ => none

/-- Set Effect by its operation byte, none for a byte that is none of the three. -/
def effectRow (p : Port) (channel operation : Byte) (x : PatternBytes) : Option Instr :=
  match operation.toNat with
  | 0 => some (.setEffectStart p channel x)
  | 1 => some (.setEffectArm p channel x)
  | 2 => some (.setEffectOff p channel x)
  | _ => none

/-- The command that a code without argument bytes names. -/
def bareRow (p : Port) (pins : Pins) (code : Byte) : Option Instr :=
  match code.toNat with
  | 0x00 => some (.nop p)
  | 0x01 => some (.readStatus p)
  | 0x12 => some (.clearMarkers p)
  | 0x13 => some (.zeroRoute p)
  | 0x14 => some (.readRoute p)
  | 0x16 => some (.readMarkerList p)
  | 0x22 => some (.flushLegs p)
  | 0x23 => some (.go p)
  | 0x24 => some (.hold p)
  | 0x26 => some (.softStop p)
  | 0x27 => some (.hardStop p)
  | 0x28 => some (.clearMotionFault p)
  | 0x29 => some (.readMotion p)
  | 0x2A => some (.readLegs p)
  | 0x2B => some (.readDrive p pins)
  | 0x31 => some (.homeTurntable p)
  | 0x32 => some (.readTurntable p)
  | 0x3A => some (.readSeats p pins)
  | 0x40 => some (.beginCheck p)
  | 0x43 => some (.revokeConsent p)
  | 0x44 => some (.readPermit p)
  | 0x52 => some (.armCues p)
  | 0x53 => some (.disarmCues p)
  | 0x55 => some (.readCueEngine p)
  | 0x57 => some (.readCueLog p)
  | 0x62 => some (.readEffects p pins)
  | 0x70 => some (.mountClips p)
  | 0x75 => some (.readSound p)
  | 0x76 => some (.readClipTable p)
  | _ => none

/-- The command with up to four argument bytes that a code names. -/
def shortRow (p : Port) (code : Byte) (args : List Byte) : Option Instr :=
  match code.toNat, args with
  | 0x02, [n] => some (.readSetting p n)
  | 0x04, [x] => resetRow p x
  | 0x11, [i] => some (.deleteMarker p i)
  | 0x15, [i] => some (.readMarker p i)
  | 0x25, [r] => some (.releaseHold p r)
  | 0x30, [t1, t0, m] => some (.turnTo p (half t1 t0) m)
  | 0x38, [m] => some (.releaseBars p m)
  | 0x39, [m] => some (.clearSeatFault p m)
  | 0x41, [g1, g0, m] => some (.concur p (half g1 g0) m)
  | 0x42, [g1, g0] => some (.renewConsent p (half g1 g0))
  | 0x51, [i] => some (.deleteCue p i)
  | 0x54, [i] => some (.fireCue p i)
  | 0x56, [i] => some (.readCue p i)
  | 0x61, [q] => some (.clearEffectLockout p q)
  | 0x72, [v, x] => some (.stopVoice p v x)
  | 0x73, [v, t, x] => some (.setVoiceGain p v t x)
  | 0x74, [z, t, x] => some (.setZoneLevel p z t x)
  | _, _ => none

/-- The command with more argument bytes that a code names. -/
def longRow (p : Port) (code : Byte) (args : List Byte) : Option Instr :=
  match code.toNat, args with
  | 0x03, [n, v3, v2, v1, v0] => some (writeRow p n (quad v3 v2 v1 v0))
  | 0x10, [i, p3, p2, p1, p0, t1, t0, k] =>
    some (.loadMarker p i (quad p3 p2 p1 p0) (half t1 t0) k)
  | 0x20, [d, l2, l1, l0, k, s1, s0, f, w1, w0, g] =>
    some (.appendLeg p (legRead d l2 l1 l0 k s1 s0 f w1 w0 g))
  | 0x21, [d, l2, l1, l0, k, s1, s0, f, w1, w0, g, m, a] =>
    some (.appendSeekLeg p (legRead d l2 l1 l0 k s1 s0 f w1 w0 g) m a)
  | 0x50, i :: t3 :: t2 :: t1 :: t0 :: d :: q :: l3 :: l2 :: l1 :: l0 :: n :: rest =>
    (records rest).map fun actions =>
      .loadCue p ⟨i, quad t3 t2 t1 t0, d, q, quad l3 l2 l1 l0, n, actions⟩
  | 0x60, [c, o, m, t1, t0, o1, o0, n, l] => effectRow p c o (patternRead m t1 t0 o1 o0 n l)
  | 0x71, [v, c, g, f, z, n, h, x] => some (.play p ⟨v, c, g, f, z, n, h, x⟩)
  | _, _ => none

/-- The command that a code and its argument bytes name (R192, chapter 11, command summary). -/
def parseCommand (p : Port) (pins : Pins) (code : Byte) (args : List Byte) : Option Instr :=
  match args with
  | [] => bareRow p pins code
  | _ =>
    match shortRow p code args with
    | some c => some c
    | none => longRow p code args

/-! ## Commands taken at the end of a byte slot -/

/-- The effect of a command on everything but the framing of its port. A row that is no command of a
port has none here. -/
def takeCommand (c : Instr) (s : State) : State :=
  match c with
  | .nop _ => takeNop s
  | .readStatus p => takeReadStatus p s
  | .readSetting p n => takeReadSetting p n s
  | .writeSetting p n v => takeWriteSetting p n.toNat v s
  | .writeEventMask p q v => takeWriteSetting p (Setting.eventMask q).number v s
  | .writePhaseWatchSet p q v => takeWriteSetting p (Setting.watchSet q).number v s
  | .writeEncoderErrorLimit p v => takeWriteSetting p Setting.encoderErrorLimit.number v s
  | .writeRampTable p e v => takeWriteSetting p (rampSetting e).number v s
  | .writeTurntableCountsPerRevolution p v =>
    takeWriteSetting p Setting.countsPerRevolution.number v s
  | .writeTurntableStep p k v => takeWriteSetting p (Setting.turntableStep k).number v s
  | .writeFittedSeatCount p v => takeWriteSetting p Setting.fittedSeatCount.number v s
  | .writeExclusivePairMask p v => takeWriteSetting p Setting.exclusivePairMask.number v s
  | .resetSectionMotion p => takeResetSectionMotion p s
  | .resetSectionShow p => takeResetSectionShow p s
  | .loadMarker p i x t k => takeLoadMarker p i x t k s
  | .deleteMarker p i => takeDeleteMarker p i s
  | .clearMarkers p => takeClearMarkers p s
  | .zeroRoute p => takeZeroRoute p s
  | .readRoute p => takeReadRoute p s
  | .readMarker p i => takeReadMarker p i s
  | .readMarkerList p => takeReadMarkerList p s
  | .appendLeg p l => takeAppendLeg p l s
  | .appendSeekLeg p l m a => takeAppendSeekLeg p l m a s
  | .flushLegs p => takeFlushLegs p s
  | .go p => takeGo p s
  | .hold p => takeHold p s
  | .releaseHold p r => takeReleaseHold p r s
  | .softStop p => takeSoftStop p s
  | .hardStop p => takeHardStop p s
  | .clearMotionFault p => takeClearMotionFault p s
  | .readMotion p => takeReadMotion p s
  | .readLegs p => takeReadLegs p s
  | .readDrive p x => takeReadDrive p x s
  | .turnTo p t m => takeTurnTo p t m s
  | .homeTurntable p => takeHomeTurntable p s
  | .readTurntable p => takeReadTurntable p s
  | .releaseBars p m => takeReleaseBars p m s
  | .clearSeatFault p m => takeClearSeatFault p m s
  | .readSeats p x => takeReadSeats p x s
  | .beginCheck p => takeBeginCheck p s
  | .concur p g m => takeConcur p g m s
  | .renewConsent p g => takeRenewConsent p g s
  | .revokeConsent p => takeRevokeConsent p s
  | .readPermit p => takeReadPermit p s
  | .loadCue p c => takeLoadCue p c s
  | .deleteCue p i => takeDeleteCue p i s
  | .armCues p => takeArmCues p s
  | .disarmCues p => takeDisarmCues p s
  | .fireCue p i => takeFireCue p i s
  | .readCueEngine p => takeReadCueEngine p s
  | .readCue p i => takeReadCue p i s
  | .readCueLog p => takeReadCueLog p s
  | .setEffectStart p c x => takeSetEffectStart p c x s
  | .setEffectArm p c x => takeSetEffectArm p c x s
  | .setEffectOff p c _ => takeSetEffectOff p c s
  | .clearEffectLockout p q => takeClearEffectLockout p q s
  | .readEffects p x => takeReadEffects p x s
  | .mountClips p => takeMountClips p s
  | .play p a => takePlay p a s
  | .stopVoice p v x => takeStopVoice p v x s
  | .setVoiceGain p v t x => takeSetVoiceGain p v t x s
  | .setZoneLevel p z t x => takeSetZoneLevel p z t x s
  | .readSound p => takeReadSound p s
  | .readClipTable p => takeReadClipTable p s
  | _ => s

/-- A command whose bytes name no row: Reset Section and Set Effect with a section or operation byte
that encodes no value are refused RANGE after the test of rights (R157, R193, R204; log 22). -/
def takeUnreadable (p : Port) (code : Byte) (s : State) : State :=
  let ports : List Port := if code = Code.setEffect then [.c] else [.a, .c]
  s.allowed ports p code (·.refuse p .range code)

/-- A whole command taken (R192). -/
def takeBytes (p : Port) (pins : Pins) (code : Byte) (args : List Byte) (s : State) : State :=
  let s := s.onPort p (·.commandFramed)
  match parseCommand p pins code args with
  | some c => takeCommand c s
  | none => takeUnreadable p code s

/-- A byte joins the command in progress; the count byte of Load Cue sets what is still owed (R192). -/
def CommandInProgress.joined (b : Byte) (c : CommandInProgress) : CommandInProgress :=
  let received := c.received ++ [b]
  let more := if c.code = Code.loadCue ∧ received.length = 12 then actionBytes b else 0
  { c with received := received, owed := c.owed - 1 + more }

/-- A byte received by a port's framer (R192). -/
def State.byteReceived (p : Port) (b : Byte) (pins : Pins) (s : State) : State :=
  let x := s.ports.get p
  match x.framer with
  | .deselected => s
  | .void => s
  | .awaitCode =>
    match argumentCount b with
    | none => s.unknown p b
    | some 0 => takeBytes p pins b [] s
    | some n =>
      s.onPort p fun x => { x with framer := .arguments, inProgress := some ⟨b, [], n⟩ }
  | .arguments =>
    match x.inProgress with
    | none => s
    | some c =>
      let c := c.joined b
      if c.owed = 0 then takeBytes p pins c.code c.received s
      else s.onPort p fun x => { x with inProgress := some c }

/-- BYTE_SLOT (R191, R192): the byte is received at the end of its slot and the next slot begins. -/
def execByteSlot (p : Port) (sdi : Byte) (pins : Pins) (s : State) : Result :=
  eventTaken (fun s =>
    ((s.withPins pins).byteReceived p sdi pins).onPort p (·.slotBegun)) s

/-! ## Writing a command as bytes (R193) -/

def legBytes (l : LegBytes) : List Byte :=
  [l.direction] ++ numBytes 3 l.length.toNat ++ [l.top] ++ numBytes 2 l.steer.toNat ++ [l.flow]
    ++ numBytes 2 l.dwell.toNat ++ [l.tag]

def playBytes (a : PlayBytes) : List Byte :=
  [a.voice, a.clip, a.gain, a.fadeIn, a.zones, a.plays, a.hold, a.cut]

def cueBytes (c : CueBytes) : List Byte :=
  [c.slot] ++ numBytes 4 c.trigger.toNat ++ [c.direction, c.latestPresent]
    ++ numBytes 4 c.latest.toNat ++ [c.count] ++ c.actions.flatMap (·.toList)

/-- Write Setting as bytes. -/
def writeBytes (number : Nat) (value : BitVec 32) : List Byte :=
  [Code.writeSetting, BitVec.ofNat 8 number] ++ numBytes 4 value.toNat

/-- The code and argument bytes of a port command, none for a row that is no command of a port. -/
def frameBytes : Instr → Option (List Byte)
  | .nop _ => some [Code.nop]
  | .readStatus _ => some [Code.readStatus]
  | .readSetting _ n => some [Code.readSetting, n]
  | .writeSetting _ n v => some (writeBytes n.toNat v)
  | .writeEventMask _ q v => some (writeBytes (Setting.eventMask q).number v)
  | .writePhaseWatchSet _ q v => some (writeBytes (Setting.watchSet q).number v)
  | .writeEncoderErrorLimit _ v => some (writeBytes Setting.encoderErrorLimit.number v)
  | .writeRampTable _ e v => some (writeBytes (rampSetting e).number v)
  | .writeTurntableCountsPerRevolution _ v => some (writeBytes Setting.countsPerRevolution.number v)
  | .writeTurntableStep _ k v => some (writeBytes (Setting.turntableStep k).number v)
  | .writeFittedSeatCount _ v => some (writeBytes Setting.fittedSeatCount.number v)
  | .writeExclusivePairMask _ v => some (writeBytes Setting.exclusivePairMask.number v)
  | .resetSectionMotion _ => some [Code.resetSection, 0]
  | .resetSectionShow _ => some [Code.resetSection, 1]
  | .loadMarker _ i x t k =>
    some ([Code.loadMarker, i] ++ numBytes 4 x.toNat ++ numBytes 2 t.toNat ++ [k])
  | .deleteMarker _ i => some [Code.deleteMarker, i]
  | .clearMarkers _ => some [Code.clearMarkers]
  | .zeroRoute _ => some [Code.zeroRoute]
  | .readRoute _ => some [Code.readRoute]
  | .readMarker _ i => some [Code.readMarker, i]
  | .readMarkerList _ => some [Code.readMarkerList]
  | .appendLeg _ l => some (Code.appendLeg :: legBytes l)
  | .appendSeekLeg _ l m a => some (Code.appendSeekLeg :: (legBytes l ++ [m, a]))
  | .flushLegs _ => some [Code.flushLegs]
  | .go _ => some [Code.go]
  | .hold _ => some [Code.hold]
  | .releaseHold _ r => some [Code.releaseHold, r]
  | .softStop _ => some [Code.softStop]
  | .hardStop _ => some [Code.hardStop]
  | .clearMotionFault _ => some [Code.clearMotionFault]
  | .readMotion _ => some [Code.readMotion]
  | .readLegs _ => some [Code.readLegs]
  | .readDrive _ _ => some [Code.readDrive]
  | .turnTo _ t m => some ([Code.turnTo] ++ numBytes 2 t.toNat ++ [m])
  | .homeTurntable _ => some [Code.homeTurntable]
  | .readTurntable _ => some [Code.readTurntable]
  | .releaseBars _ m => some [Code.releaseBars, m]
  | .clearSeatFault _ m => some [Code.clearSeatFault, m]
  | .readSeats _ _ => some [Code.readSeats]
  | .beginCheck _ => some [Code.beginCheck]
  | .concur _ g m => some ([Code.concur] ++ numBytes 2 g.toNat ++ [m])
  | .renewConsent _ g => some ([Code.renewConsent] ++ numBytes 2 g.toNat)
  | .revokeConsent _ => some [Code.revokeConsent]
  | .readPermit _ => some [Code.readPermit]
  | .loadCue _ c => some (Code.loadCue :: cueBytes c)
  | .deleteCue _ i => some [Code.deleteCue, i]
  | .armCues _ => some [Code.armCues]
  | .disarmCues _ => some [Code.disarmCues]
  | .fireCue _ i => some [Code.fireCue, i]
  | .readCueEngine _ => some [Code.readCueEngine]
  | .readCue _ i => some [Code.readCue, i]
  | .readCueLog _ => some [Code.readCueLog]
  | .setEffectStart _ c x => some ([Code.setEffect, c, 0] ++ patternWire x)
  | .setEffectArm _ c x => some ([Code.setEffect, c, 1] ++ patternWire x)
  | .setEffectOff _ c x => some ([Code.setEffect, c, 2] ++ patternWire x)
  | .clearEffectLockout _ q => some [Code.clearEffectLockout, q]
  | .readEffects _ _ => some [Code.readEffects]
  | .mountClips _ => some [Code.mountClips]
  | .play _ a => some (Code.play :: playBytes a)
  | .stopVoice _ v x => some [Code.stopVoice, v, x]
  | .setVoiceGain _ v t x => some [Code.setVoiceGain, v, t, x]
  | .setZoneLevel _ z t x => some [Code.setZoneLevel, z, t, x]
  | .readSound _ => some [Code.readSound]
  | .readClipTable _ => some [Code.readClipTable]
  | _ => none

/-! ## Reset -/

/-- Under RESET (R205): the power-on values, whatever was going on; the model's own queue and counter,
and the levels of the lines, are kept. -/
def State.powerOn (s : State) : State :=
  { State.reset with inReset := true, pins := s.pins, freeCount := s.freeCount, pending := s.pending }

/-- POWER_ON_RESET (R205). -/
def execPowerOnReset (s : State) : Result := .next s.powerOn

/-- RESET is released (R17, R205, R206): the decoders take the states they see, and a port whose CS is
low waits for its rise. -/
def State.released (csLow : PerPort Bool) (pairs : PerAxis (Bool × Bool)) (s : State) : State :=
  let s := s.onRoute fun r =>
    { r with previous := ⟨some pairs.left, some pairs.right, some pairs.turntable⟩ }
  let wait (low : Bool) (x : PortState) : PortState := { x with waitRise := low }
  { s with inReset := false,
           ports := ⟨wait csLow.a s.ports.a, wait csLow.b s.ports.b, wait csLow.c s.ports.c⟩ }

/-- RESET_RELEASE (R205, R206). -/
def execResetRelease (csLow : PerPort Bool) (pairs : PerAxis (Bool × Bool)) (s : State) : Result :=
  .next (if s.inReset then s.released csLow pairs else s)

end Sys2Proof.Machine
end

