-- ==== Sys2Proof/Machine/Ticks.lean ====
section
/-! DEFINITION. The motion tick, the millisecond of the effect time base, and the events that end
timed states (chapter 95). A tick first takes the ends that earlier steps left due, does its work, and
with `Ends.inTick` takes the ends that fall in it (log 4, 5). -/

namespace Sys2Proof.Machine

/-! ## The events that fall in a motion tick -/

/-- LEG_END (R36). -/
def execLegEnd (s : State) : Result := eventTaken (·.legEnd) s

/-- RETREAT_AT_REST (R68). -/
def execRetreatAtRest (s : State) : Result := eventTaken (·.retreatAtRest) s

/-- PRE_END (R29). -/
def execPreEnd (s : State) : Result := eventTaken (·.preEnd) s

/-- DWELL_END (R38). -/
def execDwellEnd (s : State) : Result := eventTaken (·.dwellEnd) s

/-- POST_END (R39). -/
def execPostEnd (s : State) : Result := eventTaken (·.postEnd) s

/-- SCENE_TIMER_EXPIRY (R63). -/
def execSceneTimerExpiry (s : State) : Result := eventTaken (·.sceneExpiry) s

/-- TT_PRE_END (R86). -/
def execTtPreEnd (s : State) : Result := eventTaken (·.ttPreEnd) s

/-- TURN_END (R87). -/
def execTurnEnd (s : State) : Result := eventTaken (·.turnEnd) s

/-- TURN_RETREAT_AT_REST (R87, R90). -/
def execTurnRetreatAtRest (s : State) : Result := eventTaken (·.turnRetreatAtRest) s

/-- HOMING_LIMIT (R89). -/
def execHomingLimit (s : State) : Result := eventTaken (·.homingLimit) s

/-- PAIR_FILTER_ACCEPT (R96, R100). -/
def execPairFilterAccept (seat : Fin 8) (s : State) : Result := eventTaken (·.pairAccept seat) s

/-- OCCUPANCY_CHANGE (R97, R101). -/
def execOccupancyChange (seat : Fin 8) (s : State) : Result := eventTaken (·.occupancyChange seat) s

/-- PULL_IN_END (R108). -/
def execPullInEnd (seat : Fin 8) (s : State) : Result := eventTaken (·.pullInEnd seat) s

/-- RELEASE_TIMEOUT (R109). -/
def execReleaseTimeout (seat : Fin 8) (s : State) : Result := eventTaken (·.releaseTimedOut seat) s

/-- CONCUR_TIMEOUT (R121). -/
def execConcurTimeout (s : State) : Result := eventTaken (·.concurTimeout) s

/-- CONSENT_EXPIRED (R122). -/
def execConsentExpired (s : State) : Result := eventTaken (·.consentExpired) s

/-- The ends that fall in a motion tick, in one order (log 5). -/
def State.settleMotion (s : State) : State :=
  let s := ((((((s.gapExpires).legEnd).retreatAtRest).preEnd).dwellEnd).postEnd).sceneExpiry
  let s := (((s.ttPreEnd).turnEnd).turnRetreatAtRest).homingLimit
  let s := ((allSeats.foldl State.seatEnds s).concurTimeout).consentExpired
  allVoices.foldl (fun s v => s.fadeEnd v) s

/-! ## The motion tick -/

/-- The tick under way ends: every pulse due has been emitted (R47). -/
def DriveUnit.tickEnded (d : DriveUnit) : DriveUnit :=
  let done (x : Plan) : Plan := { x with emitted := x.due }
  { d with plan := ⟨done d.plan.left, done d.plan.right, done d.plan.turntable⟩ }

/-- The timers that fall at each motion tick: the phase timer (R25), the SCENE timer (R63), the timer
of TT_PRE (R86) and the marker framer's gap timer (R8). -/
def State.timersFall (s : State) : State :=
  ((s.onMotion fun m =>
    { m with phaseTimer := m.phaseTimer.map (· - 1), sceneTimer := m.sceneTimer.map (· - 1) }).onTurntable
    fun t => { t with timer := t.timer.map (· - 1) }).onRoute
    fun r => { r with framer := r.framer.map (·.gapFallen) }

/-- The measured counts take a tick's deltas while drive enable is on (R50). -/
def DriveUnit.measuredBy (x : PerAxis Int) (d : DriveUnit) : DriveUnit :=
  if d.enable then
    { d with measured := ⟨d.measured.left + BitVec.ofInt 32 x.left,
                          d.measured.right + BitVec.ofInt 32 x.right,
                          d.measured.turntable + BitVec.ofInt 32 x.turntable⟩ }
  else d

/-- The following limit of an axis (R51, R52). -/
def Settings.followingLimit (x : Settings) : Axis → Nat
  | .turntable => x.turntableFollowingLimit
  | _ => x.wheelFollowingLimit

/-- What the drives report at a tick's close: the axes over their following limit, then the asserted
alarms (R51, R56). -/
def State.driveReports (s : State) : List FaultCause :=
  (allAxes.filter fun i => s.settings.followingLimit i < (s.drive.following i).natAbs).map followCause
    ++ (allAxes.filter fun i => s.pins.alarm.get i).map alarmCause

/-- The checks of the Drive Pulse Unit at a tick's close with drive enable on (R51, R56). -/
def State.driveChecks (s : State) : State :=
  if s.drive.enable then s.driveReports.foldl (fun s c => s.report c) s else s

/-- The close of a tick: the deltas are handed on (R4), the route position, the measured counts and the
turntable position take them, and the drives are checked. -/
def State.tickClose (s : State) : State :=
  let d := s.route.delta
  let s := s.onRoute fun r => { r with delta := ⟨0, 0, 0⟩ }
  let s := (s.routeTick d.left d.right).onDrive (·.measuredBy d)
  (s.turntableClose d.turntable).driveChecks

/-- One motion tick (R4). -/
def State.tick (pins : Pins) (ends : Ends) (s : State) : State :=
  let s := (s.settleMotion).withPins pins
  let s := ((s.onDrive (·.tickEnded)).timersFall).tickClose
  let s := allSeats.foldl State.sampleSeat s.profile
  let s := ((s.permitTick).soundTick).turntableTick
  if ends = .inTick then s.settleMotion else s

/-- MOTION_TICK (R4). -/
def execMotionTick (pins : Pins) (ends : Ends) (s : State) : Result := eventTaken (·.tick pins ends) s

/-! ## The effect time base -/

/-- The ends that fall in a millisecond of the effect time base, channels in ascending number
(log 11). -/
def State.settleEffects (s : State) : State :=
  let s := allChannels.foldl (fun s c => s.effectIntervalEnd c) s
  allPairs.foldl (fun s p => s.effectLockout p) s

/-- EFFECT_INTERVAL_END (R155). -/
def execEffectIntervalEnd (channel : Fin 12) (s : State) : Result :=
  eventTaken (·.effectIntervalEnd channel) s

/-- EFFECT_LOCKOUT (R161). -/
def execEffectLockout (pair : Fin 6) (s : State) : Result := eventTaken (·.effectLockout pair) s

/-- An interval timer falls by one (R155). -/
def Channel.intervalFallen (x : Channel) : Channel :=
  { x with interval := x.interval.map (· - 1) }

/-- The conflict sample of a pair (R161). -/
def State.conflictSample (s : State) (p : Fin 6) : State :=
  if s.exclusive p && !s.lockedOut p then
    let both := s.pins.readback.getLsbD (lowerOf p) && s.pins.readback.getLsbD (upperOf p)
    s.onEffects fun b =>
      { b with conflicts := b.conflicts.set p (if both then b.conflicts[p] + 1 else 0) }
  else s

/-- One millisecond of the effect time base (R155, R156, R161). DESIGN CHOICE (log 40): an interval begun
by a command between two of these milliseconds falls at the next one like every other, so that its first
millisecond may be short on the part's own time. -/
def State.effectTick (pins : Pins) (ends : Ends) (s : State) : State :=
  let s := (s.settleEffects).withPins pins
  let s := s.onEffects fun b => { b with carrierSecond := !b.carrierSecond }
  let s := allChannels.foldl (fun s c => s.setChannel c (s.channel c).intervalFallen) s
  let s := allPairs.foldl State.conflictSample s
  if ends = .inTick then s.settleEffects else s

/-- EFFECT_TIME_BASE_TICK (R155, R161). -/
def execEffectTimeBaseTick (pins : Pins) (ends : Ends) (s : State) : Result :=
  eventTaken (·.effectTick pins ends) s

end Sys2Proof.Machine
end

