-- ==== Sys2Proof/Machine/Dispatch.lean ====
section
/-! DEFINITION. Which meaning each row of the table has. -/

namespace Sys2Proof.Machine

def exec (i : Instr) (s : State) : Host.Outcome State Fault Refusal :=
  match i with
  | .powerOnReset => Sys2Proof.Machine.execPowerOnReset s
  | .frameStart p => Sys2Proof.Machine.execFrameStart p s
  | .csRise p => Sys2Proof.Machine.execCsRise p s
  | .unknownCode p code => Sys2Proof.Machine.execUnknownCode p code s
  | .nop p => Sys2Proof.Machine.execNop p s
  | .readStatus p => Sys2Proof.Machine.execReadStatus p s
  | .readSetting p number => Sys2Proof.Machine.execReadSetting p number s
  | .writeSetting p number value => Sys2Proof.Machine.execWriteSetting p number value s
  | .writeEventMask p which value => Sys2Proof.Machine.execWriteEventMask p which value s
  | .writePhaseWatchSet p which value => Sys2Proof.Machine.execWritePhaseWatchSet p which value s
  | .writeEncoderErrorLimit p value => Sys2Proof.Machine.execWriteEncoderErrorLimit p value s
  | .writeRampTable p entry value => Sys2Proof.Machine.execWriteRampTable p entry value s
  | .writeTurntableCountsPerRevolution p value => Sys2Proof.Machine.execWriteTurntableCountsPerRevolution p value s
  | .writeTurntableStep p k value => Sys2Proof.Machine.execWriteTurntableStep p k value s
  | .writeFittedSeatCount p value => Sys2Proof.Machine.execWriteFittedSeatCount p value s
  | .writeExclusivePairMask p value => Sys2Proof.Machine.execWriteExclusivePairMask p value s
  | .resetSectionMotion p => Sys2Proof.Machine.execResetSectionMotion p s
  | .resetSectionShow p => Sys2Proof.Machine.execResetSectionShow p s
  | .loadMarker p id position tolerance kind => Sys2Proof.Machine.execLoadMarker p id position tolerance kind s
  | .deleteMarker p id => Sys2Proof.Machine.execDeleteMarker p id s
  | .clearMarkers p => Sys2Proof.Machine.execClearMarkers p s
  | .zeroRoute p => Sys2Proof.Machine.execZeroRoute p s
  | .readRoute p => Sys2Proof.Machine.execReadRoute p s
  | .readMarker p id => Sys2Proof.Machine.execReadMarker p id s
  | .readMarkerList p => Sys2Proof.Machine.execReadMarkerList p s
  | .encoderTransition axis a b => Sys2Proof.Machine.execEncoderTransition axis a b s
  | .turntableIndex => Sys2Proof.Machine.execTurntableIndex s
  | .markerByteReceived byte stopHigh => Sys2Proof.Machine.execMarkerByteReceived byte stopHigh s
  | .markerGapExpiry => Sys2Proof.Machine.execMarkerGapExpiry s
  | .barCountEdge seat lowering => Sys2Proof.Machine.execBarCountEdge seat lowering s
  | .motionTick pins ends => Sys2Proof.Machine.execMotionTick pins ends s
  | .legEnd => Sys2Proof.Machine.execLegEnd s
  | .retreatAtRest => Sys2Proof.Machine.execRetreatAtRest s
  | .preEnd => Sys2Proof.Machine.execPreEnd s
  | .dwellEnd => Sys2Proof.Machine.execDwellEnd s
  | .postEnd => Sys2Proof.Machine.execPostEnd s
  | .sceneTimerExpiry => Sys2Proof.Machine.execSceneTimerExpiry s
  | .ttPreEnd => Sys2Proof.Machine.execTtPreEnd s
  | .turnEnd => Sys2Proof.Machine.execTurnEnd s
  | .turnRetreatAtRest => Sys2Proof.Machine.execTurnRetreatAtRest s
  | .homingLimit => Sys2Proof.Machine.execHomingLimit s
  | .pairFilterAccept seat => Sys2Proof.Machine.execPairFilterAccept seat s
  | .occupancyChange seat => Sys2Proof.Machine.execOccupancyChange seat s
  | .pullInEnd seat => Sys2Proof.Machine.execPullInEnd seat s
  | .releaseTimeout seat => Sys2Proof.Machine.execReleaseTimeout seat s
  | .concurTimeout => Sys2Proof.Machine.execConcurTimeout s
  | .consentExpired => Sys2Proof.Machine.execConsentExpired s
  | .effectTimeBaseTick pins ends => Sys2Proof.Machine.execEffectTimeBaseTick pins ends s
  | .effectIntervalEnd channel => Sys2Proof.Machine.execEffectIntervalEnd channel s
  | .effectLockout pair => Sys2Proof.Machine.execEffectLockout pair s
  | .audioSamplePeriod ends => Sys2Proof.Machine.execAudioSamplePeriod ends s
  | .clipPassEnd voice => Sys2Proof.Machine.execClipPassEnd voice s
  | .fadeEnd voice => Sys2Proof.Machine.execFadeEnd voice s
  | .flashGrant => Sys2Proof.Machine.execFlashGrant s
  | .refillSampleArrives first second => Sys2Proof.Machine.execRefillSampleArrives first second s
  | .refillDone => Sys2Proof.Machine.execRefillDone s
  | .mountReadDone bytes => Sys2Proof.Machine.execMountReadDone bytes s
  | .appendLeg p leg => Sys2Proof.Machine.execAppendLeg p leg s
  | .appendSeekLeg p leg marker action => Sys2Proof.Machine.execAppendSeekLeg p leg marker action s
  | .flushLegs p => Sys2Proof.Machine.execFlushLegs p s
  | .go p => Sys2Proof.Machine.execGo p s
  | .hold p => Sys2Proof.Machine.execHold p s
  | .releaseHold p reason => Sys2Proof.Machine.execReleaseHold p reason s
  | .softStop p => Sys2Proof.Machine.execSoftStop p s
  | .hardStop p => Sys2Proof.Machine.execHardStop p s
  | .clearMotionFault p => Sys2Proof.Machine.execClearMotionFault p s
  | .readMotion p => Sys2Proof.Machine.execReadMotion p s
  | .readLegs p => Sys2Proof.Machine.execReadLegs p s
  | .readDrive p pins => Sys2Proof.Machine.execReadDrive p pins s
  | .turnTo p target mode => Sys2Proof.Machine.execTurnTo p target mode s
  | .homeTurntable p => Sys2Proof.Machine.execHomeTurntable p s
  | .readTurntable p => Sys2Proof.Machine.execReadTurntable p s
  | .releaseBars p mask => Sys2Proof.Machine.execReleaseBars p mask s
  | .clearSeatFault p mask => Sys2Proof.Machine.execClearSeatFault p mask s
  | .readSeats p pins => Sys2Proof.Machine.execReadSeats p pins s
  | .beginCheck p => Sys2Proof.Machine.execBeginCheck p s
  | .concur p generation mask => Sys2Proof.Machine.execConcur p generation mask s
  | .renewConsent p generation => Sys2Proof.Machine.execRenewConsent p generation s
  | .revokeConsent p => Sys2Proof.Machine.execRevokeConsent p s
  | .readPermit p => Sys2Proof.Machine.execReadPermit p s
  | .loadCue p cue => Sys2Proof.Machine.execLoadCue p cue s
  | .deleteCue p slot => Sys2Proof.Machine.execDeleteCue p slot s
  | .armCues p => Sys2Proof.Machine.execArmCues p s
  | .disarmCues p => Sys2Proof.Machine.execDisarmCues p s
  | .fireCue p slot => Sys2Proof.Machine.execFireCue p slot s
  | .readCueEngine p => Sys2Proof.Machine.execReadCueEngine p s
  | .readCue p slot => Sys2Proof.Machine.execReadCue p slot s
  | .readCueLog p => Sys2Proof.Machine.execReadCueLog p s
  | .setEffectStart p channel pattern => Sys2Proof.Machine.execSetEffectStart p channel pattern s
  | .setEffectArm p channel pattern => Sys2Proof.Machine.execSetEffectArm p channel pattern s
  | .setEffectOff p channel pattern => Sys2Proof.Machine.execSetEffectOff p channel pattern s
  | .clearEffectLockout p pair => Sys2Proof.Machine.execClearEffectLockout p pair s
  | .readEffects p pins => Sys2Proof.Machine.execReadEffects p pins s
  | .mountClips p => Sys2Proof.Machine.execMountClips p s
  | .play p args => Sys2Proof.Machine.execPlay p args s
  | .stopVoice p voice step => Sys2Proof.Machine.execStopVoice p voice step s
  | .setVoiceGain p voice target step => Sys2Proof.Machine.execSetVoiceGain p voice target step s
  | .setZoneLevel p zone target step => Sys2Proof.Machine.execSetZoneLevel p zone target step s
  | .readSound p => Sys2Proof.Machine.execReadSound p s
  | .readClipTable p => Sys2Proof.Machine.execReadClipTable p s
  | .byteSlot p sdi pins => Sys2Proof.Machine.execByteSlot p sdi pins s
  | .resetRelease csLow pairs => Sys2Proof.Machine.execResetRelease csLow pairs s
  | .startBit => Sys2Proof.Machine.execStartBit s

end Sys2Proof.Machine
end

