-- ==== Sys2Proof/Safety.lean ====
section
/-! DEFINITION. The terms in which claims speak of the part: which blocks a step left alone, which
events it latched, and the properties that every step keeps. -/

namespace Sys2Proof
namespace Machine

/-! ## What a step left alone -/

/-- The parts of the state that claims name. `framing` is what the bytes of a port move (framer, command
in progress, response buffer, byte being sent, wait for a rise); `records` are event set, ATTN and last
refusal; `masks` are event mask and phase watch set; `model` is RESET, the free-value counter and the
queue. -/
inductive Block
  | framing | records | masks | settings | route | motion | drive | turntable | seats | permit
  | cues | effects | sound | lines | model
  deriving DecidableEq, Repr

/-- What the bytes of a port move. -/
def PortState.framing (x : PortState) :
    Framer × Option CommandInProgress × Option Response × Byte × Bool :=
  (x.framer, x.inProgress, x.response, x.sdo, x.waitRise)

/-- What events and refusals move. -/
def PortState.record (x : PortState) : BitVec 32 × Bool × Option LastRefusal :=
  (x.events, x.attn, x.lastRefusal)

/-- A block is the same in two states. -/
def Block.same (s t : State) : Block → Prop
  | .framing => ∀ p, (t.ports.get p).framing = (s.ports.get p).framing
  | .records => ∀ p, (t.ports.get p).record = (s.ports.get p).record
  | .masks => ∀ p, (t.ports.get p).mask = (s.ports.get p).mask
      ∧ (t.ports.get p).watch = (s.ports.get p).watch
  | .settings => t.settings = s.settings
  | .route => t.route = s.route
  | .motion => t.motion = s.motion
  | .drive => t.drive = s.drive
  | .turntable => t.tt = s.tt
  | .seats => t.seats = s.seats
  | .permit => t.permit = s.permit
  | .cues => t.cues = s.cues
  | .effects => t.effects = s.effects
  | .sound => t.sound = s.sound
  | .lines => t.pins = s.pins
  | .model => t.inReset = s.inReset ∧ t.freeCount = s.freeCount ∧ t.pending = s.pending

/-- Every block outside the list is unchanged. -/
def SameBut (blocks : List Block) (s t : State) : Prop := ∀ b, b ∈ blocks ∨ b.same s t

/-- Each port's event set has gained these events, and PHASE_ENTERED if its watch set holds one of these
phases; ATTN is re-derived where the set was touched, and last refusals are kept (R197, R199, R200). -/
def Told (es : List Event) (phases : List Phase) (s t : State) : Prop :=
  ∀ p, (t.ports.get p).events = es.foldl (fun m e => m ||| e.flag)
      (if phases.any (s.ports.get p).watches then (s.ports.get p).events ||| Event.phaseEntered.flag
       else (s.ports.get p).events)
    ∧ (t.ports.get p).attn = (if es.isEmpty && !phases.any (s.ports.get p).watches
        then (s.ports.get p).attn else (t.ports.get p).events &&& (s.ports.get p).mask != 0)
    ∧ (t.ports.get p).lastRefusal = (s.ports.get p).lastRefusal

/-- A refusal on one port (R196): the reason and the code are its last refusal, REFUSED joins its set
alone with ATTN re-derived, and every block outside the port framing and the records is unchanged. -/
def RefusedOn (p : Port) (r : Reason) (code : Byte) (s t : State) : Prop :=
  (t.ports.get p).lastRefusal = some ⟨r, code⟩
    ∧ (t.ports.get p).events = (s.ports.get p).events ||| Event.refused.flag
    ∧ (t.ports.get p).attn = ((t.ports.get p).events &&& (s.ports.get p).mask != 0)
    ∧ (∀ q, q ≠ p → (t.ports.get q).record = (s.ports.get q).record)
    ∧ SameBut [.framing, .records] s t

/-- The framing of the other ports is unchanged. -/
def OthersFraming (p : Port) (s t : State) : Prop :=
  ∀ q, q ≠ p → (t.ports.get q).framing = (s.ports.get q).framing

/-- A read command answered on a port (R194): its response replaces the buffer's content, and in a frame
its first byte, the code, is sent in the slot that begins. -/
def Answered (p : Port) (code : Byte) (body : List Byte) (s t : State) : Prop :=
  OthersFraming p s t
    ∧ if (s.ports.get p).framer = .deselected then
        (t.ports.get p).response = some ⟨responseOf code body, 0⟩
      else
        (t.ports.get p).response = some ⟨responseOf code body, 1⟩ ∧ (t.ports.get p).sdo = code

/-! ## Fields of a response (R207)

The encodings of R207 written from its table, apart from those the reads use: claims give the bodies of
the reads in these terms. -/

/-- An integer in `n` bytes, most significant first, two's complement. -/
def bytesOf (n : Nat) (x : Int) : List Byte :=
  (List.range n).reverse.map fun k => BitVec.ofInt 8 (x / 256 ^ k)

/-- A yes or no, on or off, clear or set. -/
def yesNo (b : Bool) : List Byte := bytesOf 1 (if b = true then 1 else 0)

/-- An enumerated value as its position in the list of its values, the first being 0. -/
def placeOf {α : Type} [BEq α] (values : List α) (x : α) : List Byte := bytesOf 1 (values.idxOf x)

/-- An optional field or record of `n` bytes: presence byte 1 and its bytes, or as many zeros. -/
def presentOf {α : Type} (n : Nat) (f : α → List Byte) (x : Option α) : List Byte :=
  (x.map fun v => bytesOf 1 1 ++ f v).getD (bytesOf (n + 1) 0)

/-- Flags of a fixed number of items as a mask of `n` bytes, item k in bit k. -/
def maskBytes (n : Nat) (flags : List Bool) : List Byte :=
  bytesOf n (flags.zipIdx.map fun x => if x.1 = true then (2 : Int) ^ x.2 else 0).sum

/-- A list of varying length: its count, then its items. -/
def countedOf {α : Type} (f : α → List Byte) (xs : List α) : List Byte :=
  bytesOf 1 xs.length ++ (xs.map f).flatten

/-- The fields of a leg record (R19): kind, direction, length, top step, steer, flow, dwell, tag, and the
marker and the action of a SEEK, each optional (log 18, 38). -/
def Leg.fields (l : Leg) : List Byte :=
  bytesOf 1 (if l.seek = none then 0 else 1) ++ placeOf [.fwd, .rev] l.direction ++ bytesOf 3 l.length
    ++ bytesOf 1 l.top ++ bytesOf 2 l.steer ++ yesNo l.flow ++ bytesOf 2 l.dwell ++ bytesOf 1 l.tag
    ++ presentOf 1 (fun k => bytesOf 1 k.marker) l.seek
    ++ presentOf 1 (fun k => placeOf [.align, .mark] k.action) l.seek

/-- The fields of a pattern (R154): mode, on time, off time, count or duty, and the link, optional
(log 35). -/
def Pattern.fields (x : Pattern) : List Byte :=
  placeOf [.steady, .pulse, .burst, .cycle, .dim, .off] x.mode ++ bytesOf 2 x.onTime
    ++ bytesOf 2 x.offTime ++ bytesOf 1 x.countOrDuty ++ presentOf 1 (fun (n : Nat) => bytesOf 1 n) x.link

/-! ## Outcomes that several rules share -/

/-- POST as it is entered (R39): no leg, no retreat, and the post time running; a post time of 0 ends it
at once, with the brake applied and the servo-hold latch taking its setting in IDLE (R25). -/
def State.InPost (s t : State) : Prop :=
  t.motion.current = none ∧ t.motion.retreat = none
    ∧ if s.settings.postTime = 0 then
        t.motion.phase = .idle ∧ t.motion.phaseTimer = none
        ∧ t.motion.servoLatch = s.settings.servoHold ∧ t.drive.brakeRelease = false
      else
        t.motion.phase = .post ∧ t.motion.phaseTimer = some s.settings.postTime
        ∧ t.motion.servoLatch = s.motion.servoLatch

/-- HELD as it is entered with no current leg (R29, R38, R64). -/
def State.HeldNoLeg (s t : State) : Prop :=
  t.motion = { s.motion with
    phase := .held, current := none, retreat := none, phaseTimer := none, holds := t.motion.holds,
    lastEnded := t.motion.lastEnded }

/-- What the first reason does when it joins the hold reason set (R64), `s` being the state with the
reason in its set: a moving leg begins a retreat, unless one exists, and loses its exit step, and the
phase is HOLDING; PRE and DWELL are left for HELD; every other phase goes on. A retreat begun at effective
step 0 is at rest with h 0 (log 16). -/
def State.HoldBegun (s t : State) : Prop :=
  SameBut [.framing, .records, .motion] s t
    ∧ match s.motion.phase with
      | .accel | .cruise | .decel =>
        Told [] [.holding] s t
        ∧ t.motion = (match s.motion.retreat, s.motion.current with
          | none, some c => { s.motion with
              phase := .holding,
              current := some { c with exitStep := c.exitStep.map fun _ => 0 },
              retreat := some (if c.kEff.getD c.kLeg = 0 then ⟨0, 0, true, false⟩
                else ⟨c.kEff.getD c.kLeg - 1, 0, false, false⟩) }
          | _, _ => { s.motion with phase := .holding })
      | .pre | .dwell => Told [] [.held] s t ∧ s.HeldNoLeg t ∧ t.motion.holds = s.motion.holds
          ∧ t.motion.lastEnded = s.motion.lastEnded
      | _ => t.motion = s.motion ∧ Told [] [] s t

/-- A leg as it starts from rest (R31): the record with its top step clamped to the ramp in force, its
whole length to run, step 0, and the exit step of a SEEK latched at 0. -/
def Leg.atStart (rampCount : Nat) (l : Leg) : CurrentLeg :=
  { leg := { l with top := min l.top (rampCount - 1) }, rem := l.length, kLeg := 0, kEff := none,
    stepDistance := 0, exitStep := if l.seek.isSome then some 0 else none, markerTaken := false }

/-- The head of the queue runs from rest (R31): CRUISE when its top step is 0, else ACCEL, with the path
accumulator and the split residual cleared (R46). -/
def State.StartedFromRest (s t : State) : Prop :=
  match s.motion.queue with
  | [] => False
  | l :: rest =>
    t.motion = { s.motion with
      phase := if min l.top (s.settings.rampCount - 1) = 0 then .cruise else .accel,
      queue := rest, current := some (l.atStart s.settings.rampCount), phaseTimer := none,
      retreat := none, holds := t.motion.holds }
    ∧ t.drive.accumulator = 0 ∧ t.drive.residual = 0

/-- Everything a hard stop, a first fault and a MOTION reset end (R57, R71, R75, R79): no leg, queue,
holds, timers, retreat or pending stop; fractions cleared, no pulses due, brake applied, turntable idle,
servo-hold latch and drive enable off. -/
def State.Stopped (t : State) : Prop :=
  t.motion.current = none ∧ t.motion.queue = [] ∧ t.motion.holds = ⟨false, false, false⟩
    ∧ t.motion.sceneTimer = none ∧ t.motion.retreat = none ∧ t.motion.phaseTimer = none
    ∧ t.motion.pendingStop = none ∧ t.motion.servoLatch = false
    ∧ t.drive.accumulator = 0 ∧ t.drive.residual = 0 ∧ t.drive.brakeRelease = false
    ∧ t.drive.enable = false ∧ (∀ i, (t.drive.plan.get i).remaining = 0)
    ∧ t.tt.phase = .idle

/-- The show stop with this cause has been raised (R78): cues, effects and sound are as it leaves those of
the state before. -/
def State.ShowStopped (cause : ShowCause) (s t : State) : Prop :=
  t.cues = (s.showStop cause).cues ∧ t.effects = (s.showStop cause).effects
    ∧ t.sound = (s.showStop cause).sound

/-- The turntable stopped at once (R91): TT_IDLE with no run in flight; a turn is recorded CUT as the last
turn and a homing run CUT as the last home, each with its event; in TT_IDLE nothing is recorded. The
homed flag stays, a homing run having cleared it (RunsShaped). -/
def State.RunCut (s t : State) : Prop :=
  t.tt.phase = .idle ∧ t.tt.homed = s.tt.homed
    ∧ match s.tt.phase, s.tt.run.map Run.kind with
      | .idle, _ => t.tt.run = s.tt.run ∧ t.tt.lastTurn = s.tt.lastTurn
          ∧ t.tt.lastHome = s.tt.lastHome
      | _, some (.turn target mode) => t.tt.run = none ∧ t.tt.timer = none
          ∧ t.tt.lastTurn = some ⟨target, mode, .cut⟩ ∧ t.tt.lastHome = s.tt.lastHome
          ∧ ∀ p, (t.ports.get p).events &&& Event.turnDone.flag ≠ 0
      | _, some .home => t.tt.run = none ∧ t.tt.timer = none
          ∧ t.tt.lastTurn = s.tt.lastTurn ∧ t.tt.lastHome = some .cut
          ∧ ∀ p, (t.ports.get p).events &&& Event.homeFailed.flag ≠ 0
      | _, none => t.tt.run = none ∧ t.tt.timer = none ∧ t.tt.lastTurn = s.tt.lastTurn
          ∧ t.tt.lastHome = s.tt.lastHome

/-- Slot `i`, whose cue is `c`, marked with an outcome other than DROPPED (R136, R147 to R150): its fired
flag is set, the outcome with the slot and the route position joins the log, whose oldest entry leaves
when it holds 16, the outcome count rises by one, the event is latched, and nothing else changes. -/
def State.CueMarked (i : Fin 64) (c : Cue) (o : CueOutcome) (e : Event) (s t : State) : Prop :=
  t.slot i = some { c with fired := true } ∧ (∀ j, j ≠ i → t.slot j = s.slot j)
    ∧ t.cues = { s.cues with
        slots := t.cues.slots,
        log := (if 16 ≤ s.cues.log.length then s.cues.log.drop 1 else s.cues.log)
          ++ [⟨i, o, none, s.route.position⟩],
        outcomes := (s.cues.outcomes + 1) % 65536 }
    ∧ Told [e] [] s t ∧ SameBut [.records, .cues] s t

/-- The cues that a jump marks (R143 to R145): outside DISARMED a forward jump sets the fired flag of each
unfired cue of direction FWD or ANY whose trigger it crosses, whether it fires or is missed, and every
other slot is unchanged. -/
def State.JumpMarks (before after : Int) (s t : State) : Prop :=
  ∀ i : Fin 64, t.slot i = (s.slot i).map fun c =>
    if s.cues.engine ≠ .disarmed ∧ c.fired = false ∧ c.direction ≠ .rev
        ∧ before < c.trigger ∧ c.trigger ≤ after then { c with fired := true }
    else c

/-- A change of seat `i` to state `st` (R104, R126): its change count rises, SEAT_CHANGE is latched, with
SEAT_FAULT on an entry into FAULT, and a seat that leaves CONFIRMED ends a permit that is held with
cause SEAT_CHANGED. The other seats, the route, the settings and the ports' framing and masks stay. -/
def State.SeatChanged (i : Fin 8) (st : SeatState) (s t : State) : Prop :=
  (t.seat i).state = st ∧ (t.seat i).changes = ((s.seat i).changes + 1) % 256
    ∧ (∀ j, j ≠ i → t.seat j = s.seat j)
    ∧ (∀ p, (t.ports.get p).events &&& Event.seatChange.flag ≠ 0
        ∧ (st = .fault → (s.seat i).state ≠ .fault →
            (t.ports.get p).events &&& Event.seatFault.flag ≠ 0))
    ∧ (if (s.seat i).state = .confirmed ∧ st ≠ .confirmed ∧ s.permit.state ≠ .noPermit then
        t.permit.state = .noPermit ∧ t.permit.lastLoss = .seatChanged
        ∧ t.permit.generation = s.permit.generation
        ∧ ∀ p, (t.ports.get p).events &&& Event.permitLost.flag ≠ 0
      else
        SameBut [.framing, .records, .seats] s t
        ∧ Told (if st = .fault ∧ (s.seat i).state ≠ .fault then [.seatChange, .seatFault]
            else [.seatChange]) [] s t)

/-- The command of port C by whose rules an action is judged (R148); none for SCENE_HOLD, which no port
sends, and for an EFFECT whose operation is neither START nor ARM. -/
def CueAction.command : CueAction → Option Instr
  | .play a => some (.play .c a)
  | .stop voice step => some (.stopVoice .c voice step)
  | .gain voice target step => some (.setVoiceGain .c voice target step)
  | .zone z target step => some (.setZoneLevel .c z target step)
  | .effect channel operation pattern =>
    if operation = 0 then some (.setEffectStart .c channel pattern)
    else if operation = 1 then some (.setEffectArm .c channel pattern) else none
  | .turn target mode => some (.turnTo .c target mode)
  | .sceneHold _ => none

/-- An action dropped (R148 to R150): DROPPED with the slot, the action's index and the route position
joins the log, the count rises, CUE_ACTION_DROPPED is latched, and nothing else changes. -/
def State.ActionDropped (i : Fin 64) (index : Nat) (s t : State) : Prop :=
  t.cues = { s.cues with
      log := (if 16 ≤ s.cues.log.length then s.cues.log.drop 1 else s.cues.log)
        ++ [⟨i, .dropped, some index, s.route.position⟩],
      outcomes := (s.cues.outcomes + 1) % 65536 }
    ∧ Told [.cueActionDropped] [] s t ∧ SameBut [.records, .cues] s t

/-- A channel turned OFF without a completion (R157): its armed pattern and its completion count stay. -/
def Channel.turnedOff (x : Channel) : Channel :=
  { x with state := .off, running := none, interval := none, bursts := none }

/-- A voice as its end leaves it (R171): IDLE, its FIFO empty, its end counted and recorded. -/
def Voice.atEnd (why : EndReason) (x : Voice) : Voice :=
  { x with
    state := .idle, clip := none, plays := none, fetchPasses := none, fade := none, fadeDue := false,
    fifo := [], primed := false, starved := false, refillInFlight := false,
    endCount := (x.endCount + 1) % 256,
    lastEnd := (x.clip.map fun c => ⟨c, why⟩).or x.lastEnd }

/-- A voice as R173 starts it, before the fields of the play: nothing played or fetched yet. -/
def Voice.atStart (clip plays gain fadeIn : Nat) (x : Voice) : Voice :=
  { x with
    state := .playing, clip := some clip, cursor := 0, plays := some plays, fetchPosition := 0,
    fetchPasses := some plays, fetchDone := false, gain := if fadeIn = 0 then gain else 0,
    target := gain, step := fadeIn, fade := none, fadeDue := false, fifo := [], primed := false,
    starved := false, refillInFlight := false }

/-- The record of voice `v` becomes `x`; the flash port is freed where `freed` (R180), and nothing else
of the unit changes. -/
def State.VoiceBecomes (v : Fin 6) (x : Voice) (freed : Bool) (s t : State) : Prop :=
  t.sound = { s.sound with
    voice := s.sound.voice.set v x, flash := if freed then none else s.sound.flash }

/-- Voice `v` ends (R171): VOICE_END is latched and a refill of the voice in flight is abandoned. -/
def State.VoiceEnds (v : Fin 6) (why : EndReason) (s t : State) : Prop :=
  s.VoiceBecomes v ((s.voice v).atEnd why) (s.sound.flash.any (·.owner = .voice v)) t
    ∧ Told [.voiceEnd] [] s t

/-- The record of channel `i` becomes `x` and nothing else of the bank changes. -/
def State.ChannelBecomes (i : Fin 12) (x : Channel) (s t : State) : Prop :=
  t.effects = { s.effects with channel := s.effects.channel.set i x }

end Machine

/-! ## Which commands a claim is about -/

/-- The port on which a command is taken; none for the framing of a port itself and for an event of a
line, a clock or a timer. -/
def Instr.sender : Instr → Option Port
  | .nop p | .readStatus p | .readSetting p _ | .writeSetting p _ _ | .writeEventMask p _ _
  | .writePhaseWatchSet p _ _ | .writeEncoderErrorLimit p _ | .writeRampTable p _ _
  | .writeTurntableCountsPerRevolution p _ | .writeTurntableStep p _ _ | .writeFittedSeatCount p _
  | .writeExclusivePairMask p _ | .resetSectionMotion p | .resetSectionShow p
  | .loadMarker p _ _ _ _ | .deleteMarker p _ | .clearMarkers p | .zeroRoute p | .readRoute p
  | .readMarker p _ | .readMarkerList p | .appendLeg p _ | .appendSeekLeg p _ _ _ | .flushLegs p
  | .go p | .hold p | .releaseHold p _ | .softStop p | .hardStop p | .clearMotionFault p
  | .readMotion p | .readLegs p | .readDrive p _ | .turnTo p _ _ | .homeTurntable p
  | .readTurntable p | .releaseBars p _ | .clearSeatFault p _ | .readSeats p _ | .beginCheck p
  | .concur p _ _ | .renewConsent p _ | .revokeConsent p | .readPermit p | .loadCue p _
  | .deleteCue p _ | .armCues p | .disarmCues p | .fireCue p _ | .readCueEngine p | .readCue p _
  | .readCueLog p | .setEffectStart p _ _ | .setEffectArm p _ _ | .setEffectOff p _ _
  | .clearEffectLockout p _ | .readEffects p _ | .mountClips p | .play p _ | .stopVoice p _ _
  | .setVoiceGain p _ _ _ | .setZoneLevel p _ _ _ | .readSound p | .readClipTable p => some p
  | .powerOnReset | .frameStart _ | .csRise _ | .unknownCode _ _ | .encoderTransition _ _ _
  | .turntableIndex | .markerByteReceived _ _ | .markerGapExpiry | .barCountEdge _ _
  | .motionTick _ _ | .legEnd | .retreatAtRest | .preEnd | .dwellEnd | .postEnd | .sceneTimerExpiry
  | .ttPreEnd | .turnEnd | .turnRetreatAtRest | .homingLimit | .pairFilterAccept _
  | .occupancyChange _ | .pullInEnd _ | .releaseTimeout _ | .concurTimeout | .consentExpired
  | .effectTimeBaseTick _ _ | .effectIntervalEnd _ | .effectLockout _ | .audioSamplePeriod _
  | .clipPassEnd _ | .fadeEnd _ | .flashGrant | .refillSampleArrives _ _ | .refillDone
  | .mountReadDone _ | .byteSlot _ _ _ | .resetRelease _ _ | .startBit => none

/-- The read commands, each of which answers with a response (R194). -/
def Instr.isRead : Instr → Bool
  | .readStatus _ | .readSetting _ _ | .readRoute _ | .readMarker _ _ | .readMarkerList _
  | .readMotion _ | .readLegs _ | .readDrive _ _ | .readTurntable _ | .readSeats _ _
  | .readPermit _ | .readCueEngine _ | .readCue _ _ | .readCueLog _ | .readEffects _ _
  | .readSound _ | .readClipTable _ => true
  | .nop _ | .writeSetting _ _ _ | .writeEventMask _ _ _ | .writePhaseWatchSet _ _ _
  | .writeEncoderErrorLimit _ _ | .writeRampTable _ _ _ | .writeTurntableCountsPerRevolution _ _
  | .writeTurntableStep _ _ _ | .writeFittedSeatCount _ _ | .writeExclusivePairMask _ _
  | .resetSectionMotion _ | .resetSectionShow _ | .loadMarker _ _ _ _ _ | .deleteMarker _ _
  | .clearMarkers _ | .zeroRoute _ | .appendLeg _ _ | .appendSeekLeg _ _ _ _ | .flushLegs _ | .go _
  | .hold _ | .releaseHold _ _ | .softStop _ | .hardStop _ | .clearMotionFault _ | .turnTo _ _ _
  | .homeTurntable _ | .releaseBars _ _ | .clearSeatFault _ _ | .beginCheck _ | .concur _ _ _
  | .renewConsent _ _ | .revokeConsent _ | .loadCue _ _ | .deleteCue _ _ | .armCues _
  | .disarmCues _ | .fireCue _ _ | .setEffectStart _ _ _ | .setEffectArm _ _ _
  | .setEffectOff _ _ _ | .clearEffectLockout _ _ | .mountClips _ | .play _ _ | .stopVoice _ _ _
  | .setVoiceGain _ _ _ _ | .setZoneLevel _ _ _ _ | .powerOnReset | .frameStart _ | .csRise _
  | .unknownCode _ _ | .encoderTransition _ _ _ | .turntableIndex | .markerByteReceived _ _
  | .markerGapExpiry | .barCountEdge _ _ | .motionTick _ _ | .legEnd | .retreatAtRest | .preEnd
  | .dwellEnd | .postEnd | .sceneTimerExpiry | .ttPreEnd | .turnEnd | .turnRetreatAtRest
  | .homingLimit | .pairFilterAccept _ | .occupancyChange _ | .pullInEnd _ | .releaseTimeout _
  | .concurTimeout | .consentExpired | .effectTimeBaseTick _ _ | .effectIntervalEnd _
  | .effectLockout _ | .audioSamplePeriod _ | .clipPassEnd _ | .fadeEnd _ | .flashGrant
  | .refillSampleArrives _ _ | .refillDone | .mountReadDone _ | .byteSlot _ _ _ | .resetRelease _ _
  | .startBit => false

/-- The same command with the input lines it sees replaced. -/
def Instr.seen (pins : Pins) (c : Instr) : Instr :=
  match c with
  | .readDrive p _ => .readDrive p pins
  | .readSeats p _ => .readSeats p pins
  | .readEffects p _ => .readEffects p pins
  | _ => c

namespace Machine

/-! ## Properties that every step keeps -/

/-- Flags 29 to 31 of the event set are clear (R197), and ATTN is asserted exactly while the set and the
mask overlap (R199). -/
def PortState.Sound (x : PortState) : Prop :=
  x.events.toNat < 2 ^ 29 ∧ x.attn = (x.events &&& x.mask != 0)

def State.PortsSound (s : State) : Prop := ∀ p, (s.ports.get p).Sound

/-- Drive enable is as derived (R53), the Seat Monitor has been told of it (R53, R108), the brake is
released only in a phase that holds drive enable on (R55), and the servo-hold latch is off in FAULTED
(R71, R75). -/
def State.DriveSafe (s : State) : Prop :=
  s.drive.enable = s.driveWanted ∧ s.seats.driveTold = s.drive.enable
    ∧ (s.drive.brakeRelease = true → s.motion.phase.drives = true)
    ∧ (s.motion.phase = .faulted → s.motion.servoLatch = false)

/-- While the permit is awaited or granted, every fitted seat is CONFIRMED with the current check
generation (R115). -/
def State.PermitSound (s : State) : Prop :=
  s.permit.state ≠ .noPermit → ∀ i, s.fitted i = true →
    (s.seat i).state = .confirmed ∧ (s.seat i).confirmGeneration = some s.permit.generation

/-- The channels of an exclusive pair are not both active (R160). -/
def State.PairsExclusive (s : State) : Prop :=
  ∀ p, s.exclusive p = true →
    ¬ ((s.channel (lowerOf p)).state.active = true ∧ (s.channel (upperOf p)).state.active = true)

/-- The queue, the marker table and the cue log hold no more than they can (R20, R9, R149), and the
marker table holds one entry per id in ascending order (R9). -/
def State.Bounded (s : State) : Prop :=
  s.motion.queue.length ≤ Config.queueCapacity
    ∧ s.route.markers.length ≤ Config.markerCapacity
    ∧ (s.route.markers.map (·.id)).Pairwise (· < ·)
    ∧ s.cues.log.length ≤ Config.logCapacity

/-- The rates of the defined ramp steps and of the turntable ramp are strictly increasing (R23, R83),
and the turntable position lies below the counts per revolution (R82). -/
def State.RampsRising (s : State) : Prop :=
  increasing s.settings.rate s.settings.rampCount = true
    ∧ increasing s.settings.turnRate 4 = true
    ∧ s.tt.position < s.settings.countsPerRevolution

/-- What the writes of settings have left in force: exactly the seats below the fitted seat count are
fitted (R94), every encoder whose error count is at or above the limit has its condition latched (R2), and
the step lengths fit the two bytes in which they were written (R23, R83). -/
def State.SettingsInForce (s : State) : Prop :=
  (∀ i : Fin 8, s.fitted i = decide (i.val < s.settings.fittedSeatCount))
    ∧ 1 ≤ s.settings.encoderErrorLimit
    ∧ (∀ i, s.settings.encoderErrorLimit ≤ s.route.errors.get i → s.route.conditions.get i = true)
    ∧ (∀ k : Fin 16, s.settings.ramp[k].length < 65536)
    ∧ ∀ k : Fin 4, s.settings.turntableRamp[k].length < 65536

/-- The phases whose length the phase timer measures (R25). -/
def Phase.timed : Phase → Bool
  | .pre | .dwell | .post => true
  | _ => false

/-- What the motion phase and the turntable phase say of the rest of their blocks (chapters 02, 04, 05):
a leg while the vehicle moves and none at rest but in HELD, a phase timer exactly in the timed phases, a
retreat in HOLDING and STOPPING and otherwise at most in DECEL, a pending stop cause exactly in
STOPPING, a fault record exactly in FAULTED, holds exactly as the moving and held phases need them, and
a turntable run, with its timer and retreat, exactly in the phases that have them, the homed flag being
no through a homing run; and the current leg's effective step, once it has run a tick, being that of the
last profile operation (R65, R66). -/
def State.RunsShaped (s : State) : Prop :=
  (s.motion.phase.moves = true → s.motion.current.isSome)
    ∧ (s.motion.current.isSome → s.motion.phase.moves = true ∨ s.motion.phase = .held)
    ∧ (s.motion.phaseTimer.isSome = s.motion.phase.timed)
    ∧ (s.motion.retreat.isSome →
        s.motion.phase = .decel ∨ s.motion.phase = .holding ∨ s.motion.phase = .stopping)
    ∧ (s.motion.phase = .holding ∨ s.motion.phase = .stopping → s.motion.retreat.isSome)
    ∧ (s.motion.pendingStop.isSome ↔ s.motion.phase = .stopping)
    ∧ (s.motion.fault.isSome ↔ s.motion.phase = .faulted)
    ∧ (s.motion.sceneTimer.isSome = s.motion.holds.scene)
    ∧ (s.motion.phase = .holding ∨ s.motion.phase = .held → s.motion.holds.isEmpty = false)
    ∧ (s.motion.phase = .accel ∨ s.motion.phase = .cruise ∨ s.motion.phase = .decel →
        s.motion.holds.isEmpty = true)
    ∧ (s.tt.run.isSome ↔ s.tt.phase ≠ .idle)
    ∧ (s.tt.timer.isSome ↔ s.tt.phase = .pre)
    ∧ (∀ r, s.tt.run = some r →
        (s.tt.phase = .homing → r.kind = .home)
        ∧ (s.tt.phase = .turning ∨ s.tt.phase = .stopping → r.kind ≠ .home)
        ∧ (r.retreat.isSome ↔ s.tt.phase = .stopping)
        ∧ (r.kind = .home → s.tt.homed = false))
    ∧ (∀ c, s.motion.current = some c → c.kEff = none ∨ c.kEff = s.motion.lastEff)

/-- What voices, clip table and flash port say of one another (chapter 10): a voice has a clip of the
table exactly while it is not IDLE and a fade reason exactly in FADING_OUT, its refill is in flight
exactly while the port serves it and then it is not IDLE, the samples in its FIFO and those still to
arrive never overfill the FIFO, every voice is IDLE during a mount, and the clip table has one entry
per id in ascending order. -/
def State.StreamSound (s : State) : Prop :=
  (∀ v, ((s.voice v).state = .idle ↔ (s.voice v).clip = none)
      ∧ ((s.voice v).clip.isSome = (s.clipOn v).isSome)
      ∧ ((s.voice v).fade.isSome ↔ (s.voice v).state = .fadingOut)
      ∧ (s.voice v).fifo.length ≤ 512
      ∧ ((s.voice v).refillInFlight = s.sound.flash.any (·.owner = .voice v))
      ∧ ((s.voice v).refillInFlight = true → (s.voice v).state ≠ .idle))
    ∧ (∀ r, s.sound.flash = some r →
        match r.owner with
        | .mount => s.sound.mount.isSome
        | .voice v => r.arrived ≤ r.samples
            ∧ (s.voice v).fifo.length + (r.samples - r.arrived) ≤ 512)
    ∧ (s.sound.mount.isSome → ∀ v, (s.voice v).state = .idle)
    ∧ (s.sound.clips.map (·.id)).Pairwise (· < ·)

end Machine
end Sys2Proof
end

