-- ==== Sys2Proof/WellFormed.lean ====
section
/-! DEFINITION. Which commands can occur: the operands that a row's own words rule out. -/

namespace Sys2Proof

/-- The settings whose writes have a row of their own in the table. -/
def Machine.Setting.ownRow : Machine.Setting → Bool
  | .eventMask _ | .watchSet _ | .encoderErrorLimit | .rampCount | .rampStep _ => true
  | .countsPerRevolution | .turntableStep _ | .fittedSeatCount | .exclusivePairMask => true
  | _ => false

/-- A Load Cue carries exactly the action records that its count calls for (R133). -/
def CueBytes.counted (c : CueBytes) : Bool :=
  10 * c.actions.length == Machine.actionBytes c.count

/-- UNKNOWN_CODE is about a code that names no command, WRITE_SETTING about a number without a row of
its own, and Load Cue carries the records it counts. Every other combination of operands can occur. -/
def Instr.wellFormed : Instr → Bool
  | .unknownCode _ code => (Machine.argumentCount code).isNone
  | .writeSetting _ number _ => !(Machine.settingOf number.toNat).any (·.ownRow)
  | .loadCue _ cue => cue.counted
  | _ => true

end Sys2Proof
end

