-- ==== Sys2Proof/Certificates/Slice0/Obligations.lean ====
section
/-! DEFINITION. What is claimed of the NE-36, stated for the provers. Every statement about a command
says that it answers a next state, what that state holds, and what it leaves alone. -/

open Sys2Proof Sys2Proof.Machine

/-! ## The machine as a whole -/

/-- A step runs the command at the front of the queue on the state with the rest of the queue; on an
empty queue the part idles (log 2). -/
def Obligations.StepRunsFrontCommand : Prop :=
  (∀ (c : Instr) (rest : List Instr) (s : State),
    s.pending = c :: rest → step s = exec c { s with pending := rest })
  ∧ ∀ s : State, s.pending = [] → step s = .next s

/-- No command stops the part: each answers a next state, with the queue as it was, and only
POWER_ON_RESET and RESET_RELEASE move RESET. -/
def Obligations.EveryCommandCompletes : Prop :=
  ∀ (c : Instr) (s : State), ∃ t, exec c s = .next t ∧ t.pending = s.pending
    ∧ match c with
      | .powerOnReset => t.inReset = true
      | .resetRelease _ _ => t.inReset = false
      | _ => t.inReset = s.inReset

/-- Under RESET nothing but its release has an effect (R205, log 3). At the release of RESET the
decoders take the states they see, and a port whose CS is low waits for its rise (R17, R206);
nothing else changes. -/
def Obligations.ResetLine : Prop :=
  (∀ (c : Instr) (s : State), s.inReset = true →
     (match c with
       | .powerOnReset | .resetRelease _ _ => True
       | _ => exec c s = .next s))
  ∧ (∀ (low : PerPort Bool) (pairs : PerAxis (Bool × Bool)) (s : State),
       (s.inReset = true → ∃ t, exec (.resetRelease low pairs) s = .next t ∧ t.inReset = false
         ∧ (∀ p, t.ports.get p = { s.ports.get p with waitRise := low.get p })
         ∧ t.route = { s.route with
             previous := ⟨some pairs.left, some pairs.right, some pairs.turntable⟩ }
         ∧ t.pending = s.pending ∧ t.freeCount = s.freeCount
         ∧ SameBut [.framing, .route, .model] s t)
       ∧ (s.inReset = false → exec (.resetRelease low pairs) s = .next s))

/-- The power-on reset abandons everything and leaves every block at the values that the head
tables, R17, R166, R171, R185 and R203 give (R205). Some clauses are the MODEL'S CHOICE and no rule
of the spec: by log 10 that RESET stays asserted until RESET_RELEASE, that the byte being sent is 0,
that no port waits for a rise, and that no index part, mount request or reading of HELD is kept; by
log 4 that the model's own fields pairDue, occupancyDue and fadeDue are false; by log 37 that
lastEff is absent; by log 7 and 9 that freeCount and the line levels stay. State.reset, which by the
model's choice is the state at the release of RESET (log 10) and not a state that a rule names, has
every property that a step keeps. -/
def Obligations.PowerOnReset : Prop :=
  (∀ s : State, ∃ t, exec .powerOnReset s = .next t
     ∧ t.inReset = true ∧ t.pins = s.pins ∧ t.freeCount = s.freeCount
     ∧ (∀ p, (t.ports.get p).framer = .deselected ∧ (t.ports.get p).inProgress = none
         ∧ (t.ports.get p).response = none ∧ (t.ports.get p).events = 0
         ∧ (t.ports.get p).lastRefusal = none ∧ (t.ports.get p).mask = 0
         ∧ (t.ports.get p).watch = 0 ∧ (t.ports.get p).attn = false
         ∧ (t.ports.get p).sdo = 0 ∧ (t.ports.get p).waitRise = false)
     ∧ (∀ x ∈ ([(16, 16), (17, 3), (32, 4), (33, 200 * 65536 + 400), (34, 600 * 65536 + 1200),
           (35, 1200 * 65536 + 2400), (36, 2000 * 65536 + 4000), (37, 30000 * 65536 + 65535),
           (38, 30000 * 65536 + 65535), (39, 30000 * 65536 + 65535), (40, 30000 * 65536 + 65535),
           (41, 30000 * 65536 + 65535), (42, 30000 * 65536 + 65535), (43, 30000 * 65536 + 65535),
           (44, 30000 * 65536 + 65535), (45, 30000 * 65536 + 65535), (46, 30000 * 65536 + 65535),
           (47, 30000 * 65536 + 65535), (48, 30000 * 65536 + 65535), (49, 200), (50, 500), (51, 0), (56, 512), (57, 256),
           (64, 4096), (65, 100 * 65536 + 64), (66, 300 * 65536 + 256), (67, 600 * 65536 + 512),
           (68, 1000 * 65536 + 1024), (80, 8), (81, 50), (82, 20), (83, 3), (84, 100), (85, 5),
           (86, 1500), (96, 40), (97, 150), (98, 2000), (99, 500), (112, 4095), (113, 0),
           (128, 16), (129, 48), (130, 4), (131, 2), (132, 160), (133, 0), (134, 0), (135, 0),
           (136, 0)] :
           List (Nat × Nat)), (settingOf x.1).map (·.value t) = some x.2)
     ∧ t.route.position = 0 ∧ t.route.delta = ⟨0, 0, 0⟩ ∧ t.route.errors = ⟨0, 0, 0⟩ ∧ t.route.conditions = ⟨false, false, false⟩
     ∧ t.route.framer = none ∧ t.route.markers = [] ∧ t.route.mismatches = 0 ∧ t.route.lost = false
     ∧ t.route.lastMarker = none ∧ t.route.markRecord = none ∧ t.route.previous = ⟨none, none, none⟩
     ∧ t.motion.phase = .idle ∧ t.motion.queue = [] ∧ t.motion.current = none
     ∧ t.motion.phaseTimer = none ∧ t.motion.lastEnded = none ∧ t.motion.servoLatch = false
     ∧ t.motion.holds = ⟨false, false, false⟩ ∧ t.motion.sceneTimer = none ∧ t.motion.retreat = none
     ∧ t.motion.pendingStop = none ∧ t.motion.lastStop = none ∧ t.motion.fault = none
     ∧ t.motion.extraFaults = 0 ∧ t.motion.lastEff = none
     ∧ t.drive.accumulator = 0 ∧ t.drive.residual = 0 ∧ t.drive.commanded = ⟨0, 0, 0⟩
     ∧ t.drive.measured = ⟨0, 0, 0⟩ ∧ t.drive.direction = ⟨.fwd, .fwd, .fwd⟩
     ∧ (∀ i, (t.drive.plan.get i).due = 0)
     ∧ t.drive.enable = false ∧ t.drive.brakeRelease = false
     ∧ t.tt.phase = .idle ∧ t.tt.position = 0 ∧ t.tt.homed = false ∧ t.tt.run = none
     ∧ t.tt.timer = none ∧ t.tt.lastTurn = none ∧ t.tt.lastHome = none ∧ t.tt.indexPart = 0
     ∧ (∀ i, (t.seat i).state = .isOpen ∧ (t.seat i).occupied = false ∧ (t.seat i).bar = 0
         ∧ (t.seat i).confirmBar = none ∧ (t.seat i).confirmGeneration = none
         ∧ (t.seat i).cause = none ∧ (t.seat i).lastResult = none ∧ (t.seat i).changes = 0
         ∧ (t.seat i).filtered = .unlocked ∧ (t.seat i).candidate = none
         ∧ (t.seat i).pairCount = 0 ∧ (t.seat i).occupancyCount = 0 ∧ (t.seat i).solenoid = .off
         ∧ (t.seat i).elapsed = none ∧ (t.seat i).pairDue = false
         ∧ (t.seat i).occupancyDue = false)
     ∧ t.seats.driveTold = false
     ∧ t.permit.state = .noPermit ∧ t.permit.generation = 0 ∧ t.permit.fittedMask = 0
     ∧ (∀ i : Fin 8, t.permit.results[i] = none) ∧ t.permit.passMask = 0
     ∧ t.permit.concurRemaining = none ∧ t.permit.consentRemaining = none
     ∧ t.permit.periodWindow = none ∧ t.permit.lowGiven = none ∧ t.permit.lastLoss = .powerOn
     ∧ (∀ i, t.slot i = none) ∧ t.cues.engine = .disarmed ∧ t.cues.log = [] ∧ t.cues.outcomes = 0
     ∧ (∀ c, t.channel c = ⟨.off, none, none, none, none, 0⟩)
     ∧ (∀ p : Fin 6, t.effects.conflicts[p] = 0) ∧ t.effects.carrierSecond = false
     ∧ t.sound.clips = [] ∧ t.sound.mount = none ∧ t.sound.lastMount = none ∧ t.sound.duck = 255
     ∧ (∀ z : Fin 4, t.sound.zone[z] = ⟨128, 128, 0⟩ ∧ t.sound.zoneClips[z] = 0)
     ∧ t.sound.lastServed = 4 ∧ t.sound.flash = none ∧ t.sound.lastAnnouncement = none
     ∧ t.sound.mountRequest = false ∧ t.sound.heldSeen = false
     ∧ (∀ z : Fin 4, t.sound.formed[z] = 0 ∧ t.sound.sent[z] = 0)
     ∧ (∀ v, t.voice v =
         { state := .idle, clip := none, cursor := 0, plays := none, fetchPosition := 0,
           fetchPasses := none, fetchDone := false, gain := 0, target := 0, step := 0, zones := 0,
           hold := .playOn, fade := none, fadeDue := false, fifo := [], primed := false,
           starved := false, refillInFlight := false, endCount := 0, lastEnd := none }))
  ∧ (State.reset.PortsSound ∧ State.reset.DriveSafe ∧ State.reset.PermitSound
       ∧ State.reset.PairsExclusive ∧ State.reset.Bounded ∧ State.reset.RampsRising
       ∧ State.reset.RunsShaped ∧ State.reset.StreamSound ∧ State.reset.SettingsInForce)

/-- A setting changes only by a Write Setting, by the bytes that spell one, or at a power-on reset
(R202, R204). -/
def Obligations.SettingsChangeOnlyByWrites : Prop :=
  ∀ (c : Instr) (s t : State), exec c s = .next t →
    (match c with
      | .powerOnReset | .byteSlot _ _ _ | .writeSetting _ _ _ | .writeEventMask _ _ _
      | .writePhaseWatchSet _ _ _ | .writeEncoderErrorLimit _ _ | .writeRampTable _ _ _
      | .writeTurntableCountsPerRevolution _ _ | .writeTurntableStep _ _ _
      | .writeFittedSeatCount _ _ | .writeExclusivePairMask _ _ => True
      | _ => ∀ st : Setting, st.value t = st.value s)

/-- The permit becomes GRANTED only by a Concur from port B, taken as a command or as its bytes
(R120). A motion fault stays until Clear Motion Fault is taken from port B, as a command or as its
bytes, or a power-on reset is made: phase and record are kept (R75, R77). A seat in FAULT stays
there, with its first cause, until Clear Seat Fault from port B, a write of the fitted seat count,
or a power-on reset (R94, R103, R111). -/
def Obligations.GrantsAndFaultsLatch : Prop :=
  (∀ (c : Instr) (s t : State), exec c s = .next t → s.permit.state ≠ .granted →
     (match c with
       | .concur .b _ _ | .byteSlot .b _ _ => True
       | _ => t.permit.state ≠ .granted))
  ∧ (∀ (c : Instr) (s t : State), exec c s = .next t →
       (s.motion.phase = .faulted →
         match c with
         | .powerOnReset | .byteSlot .b _ _ | .clearMotionFault .b => True
         | _ => t.motion.phase = .faulted ∧ t.motion.fault = s.motion.fault)
       ∧ ∀ i, (s.seat i).state = .fault →
         match c with
         | .powerOnReset | .byteSlot _ _ _ | .clearSeatFault .b _ | .writeFittedSeatCount .a _ => True
         | .writeSetting .a n _ => n.toNat = 80
             ∨ (t.seat i).state = .fault ∧ (t.seat i).cause = (s.seat i).cause
         | _ => (t.seat i).state = .fault ∧ (t.seat i).cause = (s.seat i).cause)

/-! ## The command ports -/

/-- FRAME_START begins a frame on a port that was deselected and waits for no rise (R192, R206): the
framer awaits a code, and an empty buffer sends 00h in the first slot (R194). A FRAME_START on a
port that is in a frame already, or that waits for a rise, leaves the state as it is (log 3).
CS_RISE ends a frame (R195): a command in progress is refused INCOMPLETE, the response is dropped;
after a RESET with CS low it only ends the wait (R206). -/
def Obligations.FramesBeginAndEnd : Prop :=
  ∀ (p : Port) (s : State), s.inReset = false →
    (∃ t, exec (.frameStart p) s = .next t ∧ SameBut [.framing] s t ∧ OthersFraming p s t
      ∧ if (s.ports.get p).framer = .deselected ∧ (s.ports.get p).waitRise = false then
          (t.ports.get p).framer = .awaitCode ∧ (t.ports.get p).inProgress = none
          ∧ (t.ports.get p).waitRise = false
          ∧ ((s.ports.get p).response = none →
              (t.ports.get p).response = none ∧ (t.ports.get p).sdo = 0)
        else t = s)
    ∧ ∃ t, exec (.csRise p) s = .next t ∧ OthersFraming p s t
      ∧ if (s.ports.get p).waitRise = true then
          SameBut [.framing] s t ∧ t.ports.get p = { s.ports.get p with waitRise := false }
        else
          (t.ports.get p).framer = .deselected ∧ (t.ports.get p).inProgress = none
          ∧ (t.ports.get p).response = none ∧ (t.ports.get p).waitRise = false
          ∧ match (s.ports.get p).framer, (s.ports.get p).inProgress with
            | .arguments, some c => RefusedOn p .incomplete c.code s t
            | _, _ => SameBut [.framing] s t

/-- The framer of a port takes one byte as R192 lays down: outside a frame and in VOID the byte is
ignored, an unknown code is refused as UNKNOWN_CODE, a code with arguments begins a command that
owes its length, and an argument byte joins it, the count byte of Load Cue adding the bytes of its
actions. The bytes that complete a command are the subject of `BytesSpellTheRows`. An unknown code
is refused UNKNOWN with the byte as its code and voids the frame, and the response goes on being
sent (R196); Nop has no effect of its own (R201). The bytes that complete a Set Effect with an
operation byte above 2 or a Reset Section with a section byte above 1 name no row of the table:
after the test of rights they are refused RANGE (R157, R193, R196, R204, log 22). -/
def Obligations.FramerTakesBytes : Prop :=
  (∀ (p : Port) (b : Byte) (pins : Pins) (s : State), s.inReset = false →
     ((s.ports.get p).framer = .deselected ∨ (s.ports.get p).framer = .void →
       ∃ t, exec (.byteSlot p b pins) s = .next t ∧ t.pins = pins ∧ OthersFraming p s t
         ∧ SameBut [.framing, .lines] s t ∧ (t.ports.get p).framer = (s.ports.get p).framer
         ∧ (t.ports.get p).inProgress = (s.ports.get p).inProgress)
     ∧ ((s.ports.get p).framer = .awaitCode → argumentCount b = none →
       exec (.byteSlot p b pins) s = exec (.unknownCode p b) (s.withPins pins))
     ∧ (∀ n, (s.ports.get p).framer = .awaitCode → argumentCount b = some n → 0 < n →
       ∃ t, exec (.byteSlot p b pins) s = .next t ∧ t.pins = pins ∧ OthersFraming p s t
         ∧ SameBut [.framing, .lines] s t ∧ (t.ports.get p).framer = .arguments
         ∧ (t.ports.get p).inProgress = some ⟨b, [], n⟩)
     ∧ ∀ c more, (s.ports.get p).framer = .arguments → (s.ports.get p).inProgress = some c →
       more = (if c.code = 0x50 ∧ c.received.length = 11 ∧ 1 ≤ b.toNat ∧ b.toNat ≤ 4
         then 10 * b.toNat else 0) →
       0 < c.owed - 1 + more →
       ∃ t, exec (.byteSlot p b pins) s = .next t ∧ t.pins = pins ∧ OthersFraming p s t
         ∧ SameBut [.framing, .lines] s t ∧ (t.ports.get p).framer = .arguments
         ∧ (t.ports.get p).inProgress = some ⟨c.code, c.received ++ [b], c.owed - 1 + more⟩)
  ∧ (∀ (p : Port) (code : Byte) (s : State), s.inReset = false →
       (∃ t, exec (.unknownCode p code) s = .next t ∧ RefusedOn p .unknown code s t
         ∧ OthersFraming p s t
         ∧ ((s.ports.get p).framer ≠ .deselected →
             (t.ports.get p).framer = .void ∧ (t.ports.get p).inProgress = none)
         ∧ ((s.ports.get p).framer ≠ .deselected →
             match (s.ports.get p).response with
             | none => (t.ports.get p).response = none ∧ (t.ports.get p).sdo = 0
             | some r =>
               match r.bytes[r.index]? with
               | some b => (t.ports.get p).sdo = b
                   ∧ (t.ports.get p).response = some ⟨r.bytes, r.index + 1⟩
               | none => (t.ports.get p).sdo = 0 ∧ (t.ports.get p).response = none))
       ∧ ∃ t, exec (.nop p) s = .next t ∧ SameBut [.framing] s t)
  ∧ (∀ (p : Port) (b : Byte) (pins : Pins) (s : State), s.inReset = false →
       ∀ c, (s.ports.get p).framer = .arguments → (s.ports.get p).inProgress = some c → c.owed = 1 →
       (c.code = 0x60 → c.received.length = 8 → 2 < (c.received.getD 1 0).toNat →
         ∃ t, exec (.byteSlot p b pins) s = .next t ∧ OthersFraming p s t
           ∧ (t.ports.get p).framer = .awaitCode ∧ (t.ports.get p).inProgress = none
           ∧ RefusedOn p (if p = .c then .range else .rights) 0x60 (s.withPins pins) t)
       ∧ (c.code = 0x04 → c.received = [] → 1 < b.toNat →
         ∃ t, exec (.byteSlot p b pins) s = .next t ∧ OthersFraming p s t
           ∧ (t.ports.get p).framer = .awaitCode ∧ (t.ports.get p).inProgress = none
           ∧ RefusedOn p (if p = .b then .rights else .range) 0x04 (s.withPins pins) t))

/-- A command that is no read moves nothing of the framing of other ports, leaves its own port
awaiting a code, and lets a response in progress go on: the slot that begins sends the next byte of
the buffer, or 00h when it is empty (R192, R194). Read Status answers with the port's event set and
last refusal in seven bytes, empties the set and deasserts ATTN; the last refusal and the other
ports' records stay (R198, R207). -/
def Obligations.ResponsesAndReadStatus : Prop :=
  (∀ (c : Instr) (p : Port) (s : State), s.inReset = false → c.sender = some p → c.isRead = false →
     ∃ t, exec c s = .next t ∧ OthersFraming p s t
       ∧ (t.ports.get p).waitRise = (s.ports.get p).waitRise
       ∧ ((s.ports.get p).framer = .awaitCode ∨ (s.ports.get p).framer = .arguments →
           (t.ports.get p).framer = .awaitCode ∧ (t.ports.get p).inProgress = none)
       ∧ ((s.ports.get p).framer ≠ .deselected →
           match (s.ports.get p).response with
           | none => (t.ports.get p).response = none ∧ (t.ports.get p).sdo = 0
           | some r =>
             match r.bytes[r.index]? with
             | some b => (t.ports.get p).sdo = b
                 ∧ (t.ports.get p).response = some ⟨r.bytes, r.index + 1⟩
             | none => (t.ports.get p).sdo = 0 ∧ (t.ports.get p).response = none))
  ∧ (∀ (p : Port) (s : State), s.inReset = false →
       ∃ t, exec (.readStatus p) s = .next t
         ∧ Answered p 0x01 ([(s.ports.get p).events.extractLsb' 24 8, (s.ports.get p).events.extractLsb' 16 8,
             (s.ports.get p).events.extractLsb' 8 8, (s.ports.get p).events.extractLsb' 0 8]
           ++ (match (s.ports.get p).lastRefusal with
             | none => [0, 0, 0]
             | some ⟨r, code⟩ => [1, BitVec.ofNat 8 ([Reason.unknown, .rights, .busy, .state, .range,
                 .full, .stale, .incomplete].idxOf r), code])) s t
         ∧ (t.ports.get p).events = 0 ∧ (t.ports.get p).attn = false
         ∧ (t.ports.get p).lastRefusal = (s.ports.get p).lastRefusal
         ∧ (∀ q, q ≠ p → (t.ports.get q).record = (s.ports.get q).record)
         ∧ SameBut [.framing, .records] s t)

/-- Each read of a block's state answers with its code, a length and the fields its rule lists, in
that order and by the encodings of R207, and changes nothing but the framing of its port (R16, R42,
R92, R130, R152, R189, R194). The widths and the order within a list are those of log 18, an absent
record of log 19, items absent together of log 38, the effective step before a leg's or a turn's
first tick of log 17, and between ticks of log 39, the fired bit of an empty slot of log 42. The
reads that show input lines answer with the levels as they stand (R58, R113, R165), and Read Sound
clears the zone clip counters (R189); nothing else changes. Seats, channels, pairs, voices and zones
go item by item (log 18), the confirm fields of a seat are two optional fields (log 38), a pattern
goes out as log 35 has it, and a DIM channel's level rests on the place in the carrier, a free value
(log 8), and the cause of the last announcement is numbered by log 43. Read Setting answers with the
number and the value as stored in four bytes, and refuses a number that names no setting RANGE
(R203); Read Cue gives the cue of a slot, its actions in the ten bytes of R134 each, or its absence
(log 18, 19), and refuses a slot above 63 (R152). -/
def Obligations.ReadsAnswer : Prop :=
  (∀ (p : Port) (id : Byte) (s : State), s.inReset = false →
     ∀ m, m = s.motion → ∀ tt, tt = s.tt → ∀ g, g = s.permit → ∀ e, e = s.cues →
     ∀ x ∈ ([
         (.readRoute p, 0x14,
           bytesOf 4 s.route.position ++ bytesOf 1 s.route.mismatches ++ yesNo s.route.lost
             ++ presentOf 5 (fun k => bytesOf 1 k.id ++ bytesOf 4 k.error) s.route.lastMarker
             ++ presentOf 5 (fun k => bytesOf 4 k.position ++ bytesOf 1 k.id) s.route.markRecord
             ++ bytesOf 1 s.route.errors.left ++ bytesOf 1 s.route.errors.right
             ++ bytesOf 1 s.route.errors.turntable
             ++ yesNo s.route.conditions.left ++ yesNo s.route.conditions.right
             ++ yesNo s.route.conditions.turntable ++ bytesOf 1 s.route.markers.length),
         (.readMarker p id, 0x15,
           presentOf 8 (fun k => bytesOf 1 k.id ++ bytesOf 4 k.position ++ bytesOf 2 k.tolerance
               ++ placeOf [.correct, .check] k.kind)
             (s.route.markers.find? fun k => k.id = id.toNat)),
         (.readMarkerList p, 0x16, countedOf (fun k => bytesOf 1 k.id) s.route.markers),
         (.readMotion p, 0x29,
           placeOf [.idle, .pre, .accel, .cruise, .decel, .dwell, .holding, .held, .stopping, .post,
               .faulted] m.phase
             ++ maskBytes 1 [m.holds.ride, m.holds.shows, m.holds.scene]
             ++ presentOf 2 (fun (n : Nat) => bytesOf 2 n) m.phaseTimer
             ++ presentOf 29 (fun c => c.leg.fields ++ bytesOf 3 c.rem ++ bytesOf 1 c.kLeg
                 ++ bytesOf 1 (c.kEff.getD c.kLeg) ++ bytesOf 3 c.stepDistance
                 ++ presentOf 1 (fun (n : Nat) => bytesOf 1 n) c.exitStep ++ yesNo m.retreat.isSome
                 ++ presentOf 1 (fun _ => yesNo c.markerTaken) c.leg.seek) m.current
             ++ bytesOf 1 m.queue.length
             ++ presentOf 2 (fun k => bytesOf 1 k.tag
                 ++ placeOf [.done, .seekDone, .seekFailed] k.outcome) m.lastEnded
             ++ yesNo m.servoLatch
             ++ presentOf 7 (fun f => placeOf [.followLeft, .followRight, .followTurntable, .alarmLeft,
                   .alarmRight, .alarmTurntable, .encoderLeft, .encoderRight, .encoderTurntable,
                   .positionRange] f.cause
                 ++ bytesOf 4 f.position ++ presentOf 1 (fun (n : Nat) => bytesOf 1 n) f.tag) m.fault
             ++ bytesOf 1 m.extraFaults
             ++ presentOf 2 (fun k => placeOf [.soft, .hard] k.kind
                 ++ placeOf [.commandA, .commandB, .permitLost, .positionLost, .sectionReset] k.cause)
               m.lastStop
             ++ presentOf 1 (placeOf [.commandA, .commandB, .permitLost, .positionLost]) m.pendingStop),
         (.readLegs p, 0x2A, countedOf Leg.fields m.queue),
         (.readTurntable p, 0x32,
           placeOf [.idle, .pre, .homing, .turning, .stopping] tt.phase ++ bytesOf 2 tt.position
             ++ yesNo tt.homed ++ bytesOf 2 s.settings.countsPerRevolution
             ++ presentOf 15 (fun r =>
                 (match r.kind with
                   | .turn target mode => bytesOf 1 0 ++ bytesOf 1 1 ++ bytesOf 2 target
                       ++ bytesOf 1 1 ++ placeOf [.short, .fwd, .rev] mode
                   | .home => bytesOf 1 1 ++ bytesOf 5 0)
                 ++ placeOf [.fwd, .rev] r.direction ++ bytesOf 3 r.rem
                 ++ bytesOf 1 (r.kEff.getD r.k) ++ yesNo r.retreat.isSome
                 ++ presentOf 2 (fun (n : Nat) => bytesOf 2 n) tt.timer) tt.run
             ++ presentOf 4 (fun k => bytesOf 2 k.target ++ placeOf [.short, .fwd, .rev] k.mode
                 ++ placeOf [.done, .stopped, .cut] k.outcome) tt.lastTurn
             ++ presentOf 1 (placeOf [.done, .limit, .permit, .cut]) tt.lastHome),
         (.readPermit p, 0x44,
           placeOf [.noPermit, .awaitingConcur, .granted] g.state ++ bytesOf 2 g.generation
             ++ bytesOf 1 g.fittedMask.toNat ++ bytesOf 1 g.passMask.toNat
             ++ ((List.finRange 8).map fun i =>
                 presentOf 1 (placeOf [.pass, .short, .notLocked, .fault]) g.results[i]).flatten
             ++ presentOf 2 (fun (n : Nat) => bytesOf 2 n) g.concurRemaining
             ++ presentOf 2 (fun (n : Nat) => bytesOf 2 n) g.consentRemaining
             ++ presentOf 2 (fun (n : Nat) => bytesOf 2 n) g.periodWindow
             ++ presentOf 1 yesNo g.lowGiven
             ++ placeOf [.powerOn, .checkFailed, .concurTimeout, .concurMismatch, .seatChanged,
                 .consentExpired, .revoked, .release, .newCheck, .motionFault] g.lastLoss),
         (.readCueEngine p, 0x55,
           placeOf [.disarmed, .armed, .suppressed] e.engine
             ++ bytesOf 1 (e.slots.toList.countP (·.isSome))
             ++ maskBytes 8 (e.slots.toList.map (·.isSome))
             ++ maskBytes 8 (e.slots.toList.map fun c => (c.map (·.fired)).getD false)
             ++ bytesOf 2 e.outcomes),
         (.readCueLog p, 0x57,
           countedOf (fun k => bytesOf 1 k.slot ++ placeOf [.fired, .missed, .dropped] k.outcome
               ++ presentOf 1 (fun (n : Nat) => bytesOf 1 n) k.action ++ bytesOf 4 k.position) e.log
             ++ bytesOf 2 e.outcomes),
         (.readClipTable p, 0x76,
           yesNo s.sound.mount.isSome
             ++ countedOf (fun c => bytesOf 1 c.id ++ placeOf [.pcm16, .pcm8u, .pcm8s] c.format
                 ++ bytesOf 3 c.start ++ bytesOf 3 c.length ++ bytesOf 3 c.loopStart)
               s.sound.clips)] : List (Instr × Byte × List Byte)),
       ∃ t, exec x.1 s = .next t ∧ Answered p x.2.1 x.2.2 s t ∧ SameBut [.framing] s t)
  ∧ (∀ (p : Port) (pins : Pins) (s : State), s.inReset = false →
       (∃ t, exec (.readDrive p pins) s = .next t ∧ t.pins = pins
         ∧ Answered p 0x2B
           (bytesOf 2 s.drive.accumulator ++ bytesOf 2 s.drive.residual
             ++ bytesOf 4 s.drive.commanded.left.toInt ++ bytesOf 4 s.drive.commanded.right.toInt
             ++ bytesOf 4 s.drive.commanded.turntable.toInt
             ++ bytesOf 4 s.drive.measured.left.toInt ++ bytesOf 4 s.drive.measured.right.toInt
             ++ bytesOf 4 s.drive.measured.turntable.toInt
             ++ bytesOf 4 (s.drive.commanded.left.toInt - s.drive.measured.left.toInt)
             ++ bytesOf 4 (s.drive.commanded.right.toInt - s.drive.measured.right.toInt)
             ++ bytesOf 4 (s.drive.commanded.turntable.toInt - s.drive.measured.turntable.toInt)
             ++ yesNo s.drive.enable ++ yesNo s.drive.brakeRelease
             ++ placeOf [.fwd, .rev] s.drive.direction.left ++ placeOf [.fwd, .rev] s.drive.direction.right
             ++ placeOf [.fwd, .rev] s.drive.direction.turntable
             ++ yesNo pins.alarm.left ++ yesNo pins.alarm.right ++ yesNo pins.alarm.turntable) s t
         ∧ SameBut [.framing, .lines] s t)
       ∧ (∃ t, exec (.readSeats p pins) s = .next t ∧ t.pins = pins
         ∧ Answered p 0x3A
           (bytesOf 1 s.settings.fittedSeatCount
             ++ ((List.finRange 8).map fun i =>
               placeOf [.notFitted, .isOpen, .locked, .confirmed, .releasing, .fault] (s.seat i).state
                 ++ yesNo (s.seat i).occupied ++ bytesOf 1 (s.seat i).bar
                 ++ presentOf 1 (fun (n : Nat) => bytesOf 1 n) (s.seat i).confirmBar
                 ++ presentOf 2 (fun (n : Nat) => bytesOf 2 n) (s.seat i).confirmGeneration
                 ++ presentOf 1 (placeOf [.pairDisagree, .barSensor, .releaseTimeout, .lockLost])
                   (s.seat i).cause
                 ++ presentOf 1 (placeOf [.pass, .short, .notLocked, .fault]) (s.seat i).lastResult
                 ++ bytesOf 1 (s.seat i).changes
                 ++ placeOf [.off, .pullIn, .hold] (s.seat i).solenoid
                 ++ presentOf 2 (fun (n : Nat) => bytesOf 2 n) (s.seat i).elapsed
                 ++ placeOf [.locked, .unlocked, .disagreement] (s.seat i).filtered
                 ++ placeOf [.locked, .unlocked, .disagreement]
                   (rawPair (pins.lka.getLsbD i) (pins.lkb.getLsbD i))
                 ++ yesNo (pins.occupancy.getLsbD i)).flatten) s t
         ∧ SameBut [.framing, .lines] s t)
       ∧ (∃ t, exec (.readEffects p pins) s = .next t ∧ t.pins = pins
         ∧ (∀ us, us = s.effects.carrierAt (Config.carrierMicros s.freeCount) → Answered p 0x62
           (((List.finRange 12).map fun i =>
               placeOf [.off, .steadyOn, .pulseOn, .burstOn, .burstOff, .cycleOn, .cycleOff, .dim,
                   .lockedOut] (s.channel i).state
                 ++ presentOf 8 Pattern.fields (s.channel i).running
                 ++ presentOf 2 (fun (n : Nat) => bytesOf 2 n) (s.channel i).interval
                 ++ presentOf 1 (fun (n : Nat) => bytesOf 1 n) (s.channel i).bursts
                 ++ presentOf 8 Pattern.fields (s.channel i).armed
                 ++ bytesOf 1 (s.channel i).completions
                 ++ yesNo (s.effectOut i us)
                 ++ yesNo (pins.readback.getLsbD i)).flatten
             ++ ((List.finRange 6).map fun (q : Fin 6) =>
               yesNo (s.settings.exclusivePairMask.getLsbD q) ++ bytesOf 1 (s.effects.conflicts[q] : Nat)).flatten)
             s t)
         ∧ t.inReset = false ∧ t.pending = s.pending ∧ SameBut [.framing, .lines, .model] s t)
       ∧ ∃ t, exec (.readSound p) s = .next t
         ∧ Answered p 0x75
           (yesNo s.sound.mount.isSome
             ++ presentOf 5 (fun k => presentOf 1 (fun (n : Nat) => bytesOf 1 n) k.toRead ++ bytesOf 1 k.next
                 ++ bytesOf 1 k.valid ++ bytesOf 1 k.invalid) s.sound.mount
             ++ presentOf 3 (fun k => placeOf [.done, .badDirectory] k.outcome ++ bytesOf 1 k.valid
                 ++ bytesOf 1 k.invalid) s.sound.lastMount
             ++ ((List.finRange 6).map fun v =>
               placeOf [.idle, .playing, .paused, .fadingOut] (s.voice v).state
                 ++ presentOf 1 (fun (n : Nat) => bytesOf 1 n) (s.voice v).clip ++ bytesOf 3 (s.voice v).cursor
                 ++ presentOf 1 (fun (n : Nat) => bytesOf 1 n) (s.voice v).plays
                 ++ bytesOf 1 (s.voice v).gain ++ bytesOf 1 (s.voice v).target
                 ++ bytesOf 1 (s.voice v).step ++ bytesOf 1 (s.voice v).zones.toNat
                 ++ placeOf [.playOn, .pauseOnHold] (s.voice v).hold
                 ++ bytesOf 2 (s.voice v).fifo.length ++ yesNo (s.voice v).primed
                 ++ yesNo (s.voice v).starved ++ bytesOf 1 (s.voice v).endCount
                 ++ presentOf 2 (fun k => bytesOf 1 k.clip
                     ++ placeOf [.finished, .stop, .cut, .showStop] k.reason) (s.voice v).lastEnd).flatten
             ++ bytesOf 1 s.sound.duck
             ++ ((List.finRange 4).map fun z =>
               bytesOf 1 s.sound.zone[z].current ++ bytesOf 1 s.sound.zone[z].target
                 ++ bytesOf 1 s.sound.zone[z].step).flatten
             ++ ((List.finRange 4).map fun z => bytesOf 2 (s.sound.zoneClips[z] : Nat)).flatten
             ++ presentOf 2 (fun k =>
                 placeOf [.motionFault, .permitLost, .positionLost, .hardStop] k.cause
                   ++ placeOf [.played, .noClip, .notMounted, .mounting] k.outcome)
               s.sound.lastAnnouncement) s t
         ∧ t.sound = { s.sound with zoneClips := Vector.replicate 4 0 }
         ∧ SameBut [.framing, .sound] s t)
  ∧ (∀ (p : Port) (n : Byte) (s : State), s.inReset = false →
       (∃ t, exec (.readSetting p n) s = .next t
         ∧ match settingOf n.toNat with
           | some st => Answered p 0x02 (n :: bytesOf 4 (st.value s)) s t ∧ SameBut [.framing] s t
           | none => RefusedOn p .range 0x02 s t ∧ OthersFraming p s t
               ∧ ((s.ports.get p).response = none → (t.ports.get p).response = none))
       ∧ ∃ t, exec (.readCue p n) s = .next t
         ∧ if h : n.toNat < 64 then
             Answered p 0x56
               (presentOf 12 (fun c => bytesOf 4 c.trigger ++ placeOf [.fwd, .rev, .any] c.direction
                   ++ presentOf 4 (fun x => bytesOf 4 x) c.latest ++ countedOf CueAction.bytes c.actions
                   ++ yesNo c.fired) (s.slot ⟨n.toNat, h⟩)) s t
             ∧ SameBut [.framing] s t
           else RefusedOn p .range 0x56 s t ∧ OthersFraming p s t
               ∧ ((s.ports.get p).response = none → (t.ports.get p).response = none))

/-! ## Settings -/

/-- The settings table of R203: each number names its setting, with its owner, its range, its write
condition and whether it is clamped, and no other number names one; the orders of the ramp steps
that R23 and R83 require of a write are part of the value test. -/
def Obligations.SettingsTable : Prop :=
  (∀ st : Setting, settingOf st.number = some st)
  ∧ (∀ n st, settingOf n = some st → n = st.number)
  ∧ (∀ x ∈ ([(1, .a, 0, 536870911), (2, .b, 0, 536870911), (3, .c, 0, 536870911), (4, .a, 0, 2047),
        (5, .b, 0, 2047), (6, .c, 0, 2047), (16, .b, 1, 255), (17, .b, 1, 7), (32, .a, 1, 16),
        (49, .a, 0, 2000), (50, .a, 0, 5000), (51, .a, 0, 1), (56, .b, 16, 8191),
        (57, .b, 16, 8191), (64, .a, 256, 65535), (80, .a, 1, 8), (81, .b, 1, 255),
        (82, .b, 1, 255), (83, .b, 0, 15), (84, .b, 10, 500), (85, .b, 1, 15), (86, .b, 100, 5000),
        (96, .b, 0, 255), (97, .b, 0, 255), (98, .b, 100, 10000), (99, .b, 50, 5000),
        (112, .c, 0, 4095), (113, .c, 0, 63), (128, .c, 1, 16), (129, .c, 0, 255), (130, .c, 1, 255),
        (131, .c, 1, 255), (132, .c, 0, 255), (133, .c, 0, 255), (134, .c, 0, 255),
        (135, .c, 0, 255), (136, .c, 0, 255)] : List (Nat × Port × Nat × Nat)),
      (settingOf x.1).map (fun st => (st.owner, st.range)) = some (x.2.1, x.2.2.1, x.2.2.2))
  ∧ (∀ k : Fin 16, settingOf (33 + k.val) = some (.rampStep k)
      ∧ (Setting.rampStep k).owner = .a)
  ∧ (∀ k : Fin 4, settingOf (65 + k.val) = some (.turntableStep k)
      ∧ (Setting.turntableStep k).owner = .a)
  ∧ ∀ (st : Setting) (v : BitVec 32) (s : State),
      (st.admitted s = true ↔ match st with
        | .rampCount | .rampStep _ => s.motion.phase = .idle
        | .countsPerRevolution | .turntableStep _ => s.tt.phase = .idle
        | .fittedSeatCount => s.permit.state = .noPermit ∧ s.motion.phase = .idle
            ∧ ∀ i, (s.seat i).state ≠ .releasing
        | _ => True)
      ∧ (st.clamped = true ↔ 129 ≤ st.number ∧ st.number ≤ 132)
      ∧ (st.accepts s.settings v.toNat = true ↔ match st with
        | .rampCount => 1 ≤ v.toNat ∧ v.toNat ≤ 16
            ∧ ∀ k : Fin 15, k.val + 1 < v.toNat → s.settings.rate k < s.settings.rate (k + 1)
        | .rampStep k => 1 ≤ v.toNat / 65536 ∧ v.toNat / 65536 ≤ 30000 ∧ 1 ≤ v.toNat % 65536
            ∧ (k.val < s.settings.rampCount →
              (0 < k.val → s.settings.rate (k - 1) < v.toNat / 65536)
              ∧ (k.val + 1 < s.settings.rampCount → v.toNat / 65536 < s.settings.rate (k + 1)))
        | .turntableStep k => 1 ≤ v.toNat / 65536 ∧ v.toNat / 65536 ≤ 20000 ∧ 1 ≤ v.toNat % 65536
            ∧ (0 < k.val → s.settings.turnRate (k - 1) < v.toNat / 65536)
            ∧ (k.val < 3 → v.toNat / 65536 < s.settings.turnRate (k + 1))
        | _ => st.range.1 ≤ v.toNat ∧ v.toNat ≤ st.range.2)

/-- A Write Setting, in whichever row of the table, is judged by the tests of R202 in their order;
when it is taken its setting has the value written, limited to the range for the settings marked
"clamp", every other setting keeps its value, and only the blocks on which the setting's rule acts
may move. A taken write of the value already held changes nothing but the framing of the port
(R202), in every state where ATTN and the settings written before are in force (PortsSound,
SettingsInForce), except that the counts per revolution always act (R81). -/
def Obligations.WriteSettingTests : Prop :=
  ∀ (p q : Port) (n : Byte) (e : RampEntry) (k : Fin 4) (v : BitVec 32) (s : State),
    s.inReset = false →
    ∀ x ∈ ([(.writeSetting p n v, n.toNat), (.writeEventMask p q v, (Setting.eventMask q).number),
        (.writePhaseWatchSet p q v, (Setting.watchSet q).number), (.writeEncoderErrorLimit p v, 16),
        (.writeRampTable p e v, match e with | .count => 32 | .step j => 33 + j.val),
        (.writeTurntableCountsPerRevolution p v, 64), (.writeTurntableStep p k v, 65 + k.val),
        (.writeFittedSeatCount p v, 80), (.writeExclusivePairMask p v, 113)] : List (Instr × Nat)),
      ∃ t, exec x.1 s = .next t
        ∧ match settingOf x.2 with
          | none => RefusedOn p .range 0x03 s t
          | some st =>
            if st.owner ≠ p then RefusedOn p .rights 0x03 s t
            else if st.admitted s = false then RefusedOn p .state 0x03 s t
            else if st.clamped = false ∧ st.accepts s.settings v.toNat = false then
              RefusedOn p .range 0x03 s t
            else
              st.value t = (if st.clamped then max st.range.1 (min v.toNat st.range.2) else v.toNat)
              ∧ (∀ st' : Setting, st' ≠ st → st'.value t = st'.value s)
              ∧ (match st with
                | .eventMask q => SameBut [.framing, .records, .masks] s t
                    ∧ ∀ r, (t.ports.get r).events = (s.ports.get r).events
                      ∧ (t.ports.get r).lastRefusal = (s.ports.get r).lastRefusal
                      ∧ (r ≠ q → (t.ports.get r).attn = (s.ports.get r).attn)
                | .watchSet _ => SameBut [.framing, .masks] s t
                | .encoderErrorLimit => SameBut [.framing, .records, .settings, .route, .motion,
                    .drive, .turntable, .seats, .permit, .cues, .effects, .sound, .model] s t
                | .countsPerRevolution => SameBut [.framing, .settings, .turntable] s t
                | .fittedSeatCount => SameBut [.framing, .records, .settings, .seats] s t
                | .exclusivePairMask => SameBut [.framing, .settings, .effects] s t
                | _ => SameBut [.framing, .settings] s t)
              ∧ (st.value t = st.value s → st ≠ .countsPerRevolution → s.PortsSound →
                  s.SettingsInForce → SameBut [.framing] s t)

/-- A write of the event mask re-derives ATTN at once, and a write of the phase watch set latches
nothing (R199, R200). A write of the turntable counts per revolution sets the position to 0 and
homed to no, even when it stores the value already held (R81, R202); a write of the encoder error
limit latches at once the conditions of the encoders whose counts are at or above it (R2), and while
drive enable is on each one newly latched is a report, in the order left, right, turntable (log 12):
outside FAULTED the first is the fault and the others second faults, in FAULTED all are second
faults, and a turntable run in flight ends CUT either way (R74 to R76, R91). A taken write of the
fitted seat count makes seats below it fitted and the others NOT_FITTED (R94): a seat whose standing
changes takes the fixed values of R94 in every field but its change count, which rises, and
SEAT_CHANGE is latched (R104); the others stay. The release settings kept with a seat, which act in
RELEASING alone (log 13), stay too; the model's own fields pairDue and occupancyDue become false
(log 4). -/
def Obligations.WritesThatActAtOnce : Prop :=
  (∀ (p : Port) (v : BitVec 32) (s : State), s.inReset = false →
     (v.toNat ≤ 536870911 → ∃ t, exec (.writeEventMask p p v) s = .next t
       ∧ (t.ports.get p).mask = v ∧ (t.ports.get p).watch = (s.ports.get p).watch
       ∧ (t.ports.get p).events = (s.ports.get p).events
       ∧ (t.ports.get p).attn = ((s.ports.get p).events &&& v != 0)
       ∧ (∀ q, q ≠ p → t.ports.get q = s.ports.get q) ∧ SameBut [.framing, .records, .masks] s t)
     ∧ (v.toNat ≤ 2047 → ∃ t, exec (.writePhaseWatchSet p p v) s = .next t
       ∧ (t.ports.get p).watch = v ∧ (t.ports.get p).mask = (s.ports.get p).mask
       ∧ (∀ q, q ≠ p → t.ports.get q = s.ports.get q) ∧ SameBut [.framing, .masks] s t))
  ∧ (∀ (v : BitVec 32) (s : State), s.inReset = false →
       (s.tt.phase = .idle → 256 ≤ v.toNat → v.toNat ≤ 65535 →
         ∃ t, exec (.writeTurntableCountsPerRevolution .a v) s = .next t
           ∧ t.settings = { s.settings with countsPerRevolution := v.toNat }
           ∧ t.tt = { s.tt with position := 0, homed := false }
           ∧ SameBut [.framing, .settings, .turntable] s t)
       ∧ (1 ≤ v.toNat → v.toNat ≤ 255 →
         ∃ t, exec (.writeEncoderErrorLimit .b v) s = .next t
           ∧ t.settings = { s.settings with encoderErrorLimit := v.toNat }
           ∧ t.route.errors = s.route.errors
           ∧ (∀ i, t.route.conditions.get i
             = (s.route.conditions.get i || decide (v.toNat ≤ s.route.errors.get i)))
           ∧ (t.route.conditions = s.route.conditions ∨ s.drive.enable = false →
               SameBut [.framing, .settings, .route] s t)
           ∧ ∀ new : List Axis,
             new = [Axis.left, .right, .turntable].filter (fun i =>
               !s.route.conditions.get i && decide (v.toNat ≤ s.route.errors.get i)) →
             s.drive.enable = true → s.motion.extraFaults ≤ 255 →
             match new with
             | [] => True
             | i :: more =>
               t.motion.phase = .faulted
               ∧ if s.motion.phase = .faulted then
                   t.motion.fault = s.motion.fault ∧ s.RunCut t
                   ∧ t.motion.extraFaults = min 255 (s.motion.extraFaults + new.length)
                 else
                   t.Stopped ∧ s.RunCut t ∧ s.ShowStopped .motionFault t
                   ∧ t.motion.fault = some ⟨match i with
                       | .left => .encoderLeft
                       | .right => .encoderRight
                       | .turntable => .encoderTurntable,
                     s.route.position, s.motion.current.map (·.leg.tag)⟩
                   ∧ t.motion.extraFaults = min 255 (s.motion.extraFaults + more.length)))
  ∧ (∀ (v : BitVec 32) (s : State), s.inReset = false → 1 ≤ v.toNat → v.toNat ≤ 8 →
       s.permit.state = .noPermit → s.motion.phase = .idle →
       (∀ i, (s.seat i).state ≠ .releasing) →
       ∃ t, exec (.writeFittedSeatCount .a v) s = .next t
         ∧ t.settings = { s.settings with fittedSeatCount := v.toNat }
         ∧ (∀ i : Fin 8, if s.fitted i = decide (i.val < v.toNat) then t.seat i = s.seat i
             else
               t.seat i = { s.seat i with
                 state := if i.val < v.toNat then .isOpen else .notFitted,
                 changes := ((s.seat i).changes + 1) % 256, occupied := false, bar := 0,
                 confirmBar := none, confirmGeneration := none, cause := none, lastResult := none,
                 solenoid := .off, elapsed := none, filtered := .unlocked, candidate := none,
                 pairCount := 0, pairDue := false, occupancyCount := 0, occupancyDue := false })
         ∧ Told (if ∃ i : Fin 8, s.fitted i ≠ decide (i.val < v.toNat) then [.seatChange] else []) [] s t
         ∧ SameBut [.framing, .records, .settings, .seats] s t)

/-! ## Commands as bytes -/

/-- Every well-formed port command has bytes, and they are read as that command; bytes read as a
command are the bytes of it and of no other (R192, R193, command summary). -/
def Obligations.CommandBytesRoundTrip : Prop :=
  (∀ (c : Instr) (pins : Pins), c.wellFormed = true → ∀ p, c.sender = some p →
    ∃ code args, frameBytes c = some (code :: args)
      ∧ parseCommand p pins code args = some (c.seen pins))
  ∧ ∀ (p : Port) (pins : Pins) (code : Byte) (args : List Byte) (c : Instr),
    parseCommand p pins code args = some c →
      c.sender = some p ∧ frameBytes c = some (code :: args)

/-- A port that awaits a code and is given the bytes of a well-formed command, one BYTE_SLOT each,
ends as the command's own row leaves it when it is taken in the slot of its last byte. -/
def Obligations.BytesSpellTheRows : Prop :=
  ∀ (c : Instr) (pins : Pins) (s : State), s.inReset = false → c.wellFormed = true →
    ∀ p, c.sender = some p →
    (s.ports.get p).framer = .awaitCode → (s.ports.get p).inProgress = none →
    ∃ bytes, frameBytes c = some bytes ∧
    bytes.foldl (fun o b => match o with | .next u => exec (.byteSlot p b pins) u | x => x)
        (.next s : Host.Outcome State Fault Refusal)
      = exec (c.seen pins)
        ((s.withPins pins).onPort p fun x => PortState.slotBegun^[bytes.length - 1] x)

/-! ## Route Counter -/

/-- An encoder's pair takes its new state: the first one seen is taken without counting, a legal
change counts up or down the sequence 00, 10, 11, 01, and a change of both phases raises the error
count, which at the limit latches the encoder's fault condition; a condition newly latched while
drive enable is on is a motion fault (R1, R2, R17, R74), which cuts a turntable run and outside
FAULTED stops all with a show stop (R75, R76, R78, R91). -/
def Obligations.EncoderCounting : Prop :=
  ∀ (i : Axis) (a b : Bool) (s : State), s.inReset = false →
    ∃ t, exec (.encoderTransition i a b) s = .next t
      ∧ match s.route.previous.get i with
        | none => t.route = { s.route with previous := s.route.previous.set i (some (a, b)) }
            ∧ SameBut [.route] s t
        | some (a', b') =>
          if a' ≠ a ∧ b' ≠ b then
            t.route = { s.route with
                previous := s.route.previous.set i (some (a, b)),
                errors := s.route.errors.set i (min 255 (s.route.errors.get i + 1)),
                conditions := s.route.conditions.set i (s.route.conditions.get i
                  || decide (s.settings.encoderErrorLimit ≤ min 255 (s.route.errors.get i + 1))) }
            ∧ if t.route.conditions = s.route.conditions ∨ s.drive.enable = false then
                SameBut [.route] s t
              else
                t.motion.phase = .faulted
                ∧ if s.motion.phase = .faulted then
                    t.motion.fault = s.motion.fault ∧ s.RunCut t
                    ∧ t.motion.extraFaults = min 255 (s.motion.extraFaults + 1)
                  else
                    t.motion.fault = some ⟨encoderCause i, s.route.position,
                      s.motion.current.map (·.leg.tag)⟩
                    ∧ t.Stopped ∧ s.RunCut t ∧ s.ShowStopped .motionFault t
          else
            t.route = { s.route with
                previous := s.route.previous.set i (some (a, b)),
                delta := s.route.delta.set i (s.route.delta.get i
                  + if (a, b) = (a', b') then 0 else if (a, b) = (!b', a') then 1 else -1) }
            ∧ SameBut [.route] s t

/-- A byte on the marker reader line that completes no frame, the expiry of the gap timer, and a
start bit move only the framer, as the table of R8 says; a framing error drops the pending byte
(R7). The gap timer has 2 ms, counted in motion ticks (log 34); its expiry acts when none are left
(log 3), and a start bit stops it. -/
def Obligations.MarkerFraming : Prop :=
  ∀ (b : Byte) (stop : Bool) (s : State), s.inReset = false →
    (stop = false ∨ s.route.framer.all (b ≠ ~~~·.byte) = true →
      ∃ t, exec (.markerByteReceived b stop) s = .next t ∧ SameBut [.route] s t
        ∧ t.route = { s.route with
            framer := if stop = false ∨ b = 0 ∨ b = 255 then none else some ⟨b, some 2⟩ })
    ∧ (∃ t, exec .markerGapExpiry s = .next t ∧ SameBut [.route] s t
        ∧ t.route = { s.route with
            framer := if s.route.framer.any (·.gap = some 0) then none else s.route.framer })
    ∧ ∃ t, exec .startBit s = .next t ∧ SameBut [.route] s t
        ∧ t.route = { s.route with
            framer := match s.route.framer with
              | none => none
              | some x => some ⟨x.byte, none⟩ }

/-- A marker arrival that is not sought (R11): an unknown id changes nothing, an arrival within the
tolerance clears the mismatch count and the position-lost flag and a CORRECT one sets the route
position (R12), an arrival beyond it is a mismatch that at the limit loses the position and soft
stops a moving vehicle with a show stop in cues, effects and sound (R13, R73, R78). In every engine
state a correction passes its jump, from the old position to the new, before MARKER_SEEN is latched
(R12, R143 to R145): it marks each forward cue that it crosses, and its whole effect is the subject
of `CuesOfASampleOrJump`. A sought arrival: ALIGN sets the route position, passes its jump in every
engine state (R14, R143 to R145) and clears mismatch count and lost flag, MARK records the position;
then, in the state the jump left, the leg takes its marker, its exit step becomes 0, a retreat
begins unless one exists, and ACCEL or CRUISE becomes DECEL (R11, R14, R41, R66), unless an action
of the jump's cues has changed the phase or discarded the leg (log 44). A retreat begun at effective
step 0 is at rest with h 0 (log 16). -/
def Obligations.MarkerArrivals : Prop :=
  (∀ s : State, s.inReset = false → ∀ x, s.route.framer = some x →
     s.soughtAction x.byte.toNat = none →
     ∃ t, exec (.markerByteReceived (~~~x.byte) true) s = .next t
       ∧ match s.route.entry x.byte.toNat with
         | none => t.route = { s.route with framer := none }
             ∧ Told [.markerUnknown] [] s t ∧ SameBut [.route, .records] s t
         | some m =>
           if (m.position - s.route.position).natAbs ≤ m.tolerance then
             t.route = { s.route with
                 framer := none, mismatches := 0, lost := false,
                 position := if m.kind = .correct then m.position else s.route.position,
                 lastMarker := some ⟨m.id,
                   max Config.positionMin (min (m.position - s.route.position) Config.positionMax)⟩ }
             ∧ (m.kind = .check ∨ m.position = s.route.position ∨ s.cues.engine = .disarmed →
                 Told [.markerSeen] [] s t ∧ SameBut [.route, .records] s t)
             ∧ (m.kind = .correct → s.JumpMarks s.route.position m.position t)
             ∧ ∀ u : State,
               u = (if m.kind = .correct then
                   (s.onRoute fun r => { r with framer := none, position := m.position }).jump
                     s.route.position m.position
                 else s.onRoute fun r => { r with framer := none }) →
               Told [.markerSeen] [] u t ∧ SameBut [.route, .records] u t
           else
             t.route = { s.route with
                 framer := none, mismatches := min 7 (s.route.mismatches + 1),
                 lost := s.route.lost
                   || decide (s.settings.mismatchLimit ≤ min 7 (s.route.mismatches + 1)),
                 lastMarker := some ⟨m.id,
                   max Config.positionMin (min (m.position - s.route.position) Config.positionMax)⟩ }
             ∧ if t.route.lost = s.route.lost then
                 Told [.markerMismatch] [] s t ∧ SameBut [.route, .records] s t
               else
                 match s.motion.phase with
                 | .accel | .cruise | .decel | .holding =>
                   t.motion.phase = .stopping ∧ t.motion.pendingStop = some .positionLost
                   ∧ t.motion.queue = [] ∧ t.motion.holds = ⟨false, false, false⟩
                   ∧ t.cues.engine ≠ .armed ∧ s.ShowStopped .positionLost t
                   ∧ SameBut [.route, .motion, .records, .cues, .effects, .sound] s t
                 | _ => Told [.markerMismatch, .positionLost] [] s t
                     ∧ SameBut [.route, .records] s t)
  ∧ (∀ s : State, s.inReset = false → ∀ x, s.route.framer = some x →
       ∀ m, s.route.entry x.byte.toNat = some m → ∀ c, s.motion.current = some c →
       ∀ k, c.leg.seek = some k → k.marker = x.byte.toNat → c.markerTaken = false →
       (s.motion.phase = .accel ∨ s.motion.phase = .cruise ∨ s.motion.phase = .decel) →
       ∀ u : State,
       u = (match k.action with
         | .align => (s.onRoute fun r => { r with framer := none, position := m.position }).jump
             s.route.position m.position
         | .mark => s.onRoute fun r => { r with framer := none }) →
       (k.action = .mark ∨ m.position = s.route.position ∨ s.cues.engine = .disarmed →
         SameBut [.route] s u)
       ∧ ∃ t, exec (.markerByteReceived (~~~x.byte) true) s = .next t
         ∧ (match k.action with
           | .align => t.route = { s.route with
               framer := none, position := m.position, mismatches := 0, lost := false,
               lastMarker := some ⟨m.id,
                 max Config.positionMin (min (m.position - s.route.position) Config.positionMax)⟩ }
           | .mark => t.route = { s.route with
               framer := none, markRecord := some ⟨s.route.position, m.id⟩,
               lastMarker := some ⟨m.id,
                 max Config.positionMin (min (m.position - s.route.position) Config.positionMax)⟩ })
         ∧ (k.action = .align → s.JumpMarks s.route.position m.position t)
         ∧ t.motion = (match u.motion.current with
             | none => u.motion
             | some d => { u.motion with
                 phase := if u.motion.phase = .accel ∨ u.motion.phase = .cruise then .decel
                   else u.motion.phase,
                 current := some { d with markerTaken := true, exitStep := some 0 },
                 retreat := match u.motion.retreat with
                   | some r => some r
                   | none =>
                     if d.kEff.getD d.kLeg = 0 then some ⟨0, 0, true, false⟩
                     else some ⟨d.kEff.getD d.kLeg - 1, 0, false, false⟩ })
         ∧ Told [.markerSeen] (if u.motion.phase = .accel ∨ u.motion.phase = .cruise then [.decel]
             else []) u t
         ∧ SameBut [.route, .motion, .records] u t)

/-- Load Marker puts one entry per id into a table of 32 (R9); Delete Marker and Clear Markers
remove entries that no seek leg names (R10). Other entries and the rest of the Route Counter are
unchanged. Zero Route zeroes the route position and the mismatch count, clears the position-lost
flag, and re-arms the Cue Engine: every fired flag clear, SUPPRESSED to ARMED (R15, R136, R137). -/
def Obligations.MarkerTableAndZeroRoute : Prop :=
  (∀ (p : Port) (id : Byte) (x : BitVec 32) (tol : BitVec 16) (kind : Byte) (s : State),
     s.inReset = false →
     (∃ t, exec (.loadMarker p id x tol kind) s = .next t
       ∧ if p ≠ .a then RefusedOn p .rights 0x10 s t
         else if id = 0 ∨ id = 255 ∨ 1 < kind.toNat then RefusedOn p .range 0x10 s t
         else if s.route.entry id.toNat = none ∧ 32 ≤ s.route.markers.length then
           RefusedOn p .full 0x10 s t
         else
           t.route.entry id.toNat = some ⟨id.toNat, x.toInt, tol.toNat,
             if kind = 0 then .correct else .check⟩
           ∧ (∀ j : Fin 256, j.val ≠ id.toNat → t.route.entry j = s.route.entry j)
           ∧ t.route = { s.route with markers := t.route.markers }
           ∧ SameBut [.framing, .route] s t)
     ∧ (∃ t, exec (.deleteMarker p id) s = .next t
       ∧ if p ≠ .a then RefusedOn p .rights 0x11 s t
         else if s.motion.legs.any (fun l => l.seek.any (·.marker = id.toNat)) then
           RefusedOn p .state 0x11 s t
         else
           t.route.entry id.toNat = none
           ∧ (∀ j : Fin 256, j.val ≠ id.toNat → t.route.entry j = s.route.entry j)
           ∧ t.route = { s.route with markers := t.route.markers }
           ∧ SameBut [.framing, .route] s t)
     ∧ ∃ t, exec (.clearMarkers p) s = .next t
       ∧ if p ≠ .a then RefusedOn p .rights 0x12 s t
         else if s.motion.legs.any (·.seek.isSome) then RefusedOn p .state 0x12 s t
         else t.route = { s.route with markers := [] } ∧ SameBut [.framing, .route] s t)
  ∧ (∀ (p : Port) (s : State), s.inReset = false →
       ∃ t, exec (.zeroRoute p) s = .next t
         ∧ if p ≠ .a then RefusedOn p .rights 0x13 s t
           else if s.motion.phase ≠ .idle then RefusedOn p .state 0x13 s t
           else
             t.route = { s.route with position := 0, mismatches := 0, lost := false }
             ∧ (∀ i, t.slot i = (s.slot i).map fun c => { c with fired := false })
             ∧ t.cues.engine = (if s.cues.engine = .suppressed then .armed else s.cues.engine)
             ∧ t.cues.log = s.cues.log ∧ t.cues.outcomes = s.cues.outcomes
             ∧ SameBut [.framing, .route, .cues] s t)

/-! ## Motion Generator: the queue and its starts -/

/-- Append Leg and Append Seek Leg are tested in the order of R20 and put the clamped record of R19
at the end of the queue. Flush Legs empties the queue and makes a latched exit step 0 (R22). -/
def Obligations.AppendAndFlushLegs : Prop :=
  (∀ (p : Port) (l : LegBytes) (m a : Byte) (s : State), s.inReset = false →
     ∀ x ∈ ([(.appendLeg p l, 0x20, none), (.appendSeekLeg p l m a, 0x21, some (m, a))] :
         List (Instr × Byte × Option (Byte × Byte))),
       ∃ t, exec x.1 s = .next t
         ∧ if p ≠ .a then RefusedOn p .rights x.2.1 s t
           else if 1 < l.direction.toNat ∨ 1 < l.flow.toNat ∨ l.length = 0
               ∨ (x.2.2.isSome ∧ (m = 0 ∨ m = 255 ∨ 1 < a.toNat ∨ l.flow = 1
                   ∨ s.route.markers.all (·.id ≠ m.toNat))) then
             RefusedOn p .range x.2.1 s t
           else if 8 ≤ s.motion.queue.length then RefusedOn p .full x.2.1 s t
           else if l.flow = 1 ∧ (s.motion.queue.getLast?.or (s.motion.current.map (·.leg))).any
               (·.direction ≠ if l.direction = 0 then .fwd else .rev) then
             RefusedOn p .range x.2.1 s t
           else
             t.motion = { s.motion with queue := s.motion.queue ++ [
               { direction := if l.direction = 0 then .fwd else .rev, length := l.length.toNat,
                 top := min l.top.toNat (s.settings.rampCount - 1),
                 steer := max (-1023) (min l.steer.toInt 1023), flow := l.flow = 1,
                 dwell := l.dwell.toNat, tag := l.tag.toNat,
                 seek := x.2.2.map fun _ => ⟨m.toNat, if a = 0 then .align else .mark⟩ }] }
             ∧ SameBut [.framing, .motion] s t)
  ∧ (∀ (p : Port) (s : State), s.inReset = false →
       ∃ t, exec (.flushLegs p) s = .next t
         ∧ if p ≠ .a then RefusedOn p .rights 0x22 s t
           else
             t.motion = { s.motion with
               queue := [],
               current := s.motion.current.map fun c =>
                 { c with exitStep := if c.exitStep.isSome then some 0 else none } }
             ∧ SameBut [.framing, .motion] s t)

/-- Go by the tests of R27 in their order. From IDLE it enters PRE with brake and drives on and the
counts zeroed (R28, R53), or with an encoder condition still latched it becomes a motion fault (R74,
log 12), which cuts a turntable run and raises its show stop (R78, R91); a pre time of 0 ends PRE at
once (R25, R29). From POST it holds or starts a leg (R30). -/
def Obligations.GoStartsTheVehicle : Prop :=
  ∀ (p : Port) (s : State), s.inReset = false →
    ∃ t, exec (.go p) s = .next t
      ∧ if p ≠ .a then RefusedOn p .rights 0x23 s t
        else if s.motion.phase = .faulted then RefusedOn p .state 0x23 s t
        else if s.motion.phase ≠ .idle ∧ s.motion.phase ≠ .post then RefusedOn p .busy 0x23 s t
        else if s.motion.queue = [] then RefusedOn p .state 0x23 s t
        else if s.permit.state ≠ .granted then RefusedOn p .state 0x23 s t
        else if s.motion.phase = .post then
          SameBut [.framing, .records, .motion, .drive] s t
          ∧ if s.motion.holds ≠ ⟨false, false, false⟩ then
              s.HeldNoLeg t ∧ t.motion.holds = s.motion.holds ∧ Told [] [.held] s t
              ∧ t.drive = s.drive
            else
              s.StartedFromRest t ∧ t.motion.holds = s.motion.holds
              ∧ Told [] [t.motion.phase] s t
              ∧ t.drive = { s.drive with accumulator := 0, residual := 0 }
        else if s.route.conditions ≠ ⟨false, false, false⟩ then
          t.motion.phase = .faulted ∧ t.Stopped ∧ t.route = s.route ∧ s.RunCut t
          ∧ s.ShowStopped .motionFault t
        else
          SameBut [.framing, .records, .motion, .drive, .seats] s t
          ∧ t.drive.brakeRelease = true ∧ t.drive.enable = true
          ∧ t.drive.commanded = ⟨0, 0, 0⟩ ∧ t.drive.measured = ⟨0, 0, 0⟩
          ∧ t.seats = { s.seats with driveTold := !s.drive.enable || s.seats.driveTold }
          ∧ if 0 < s.settings.preTime then
              t.motion = { s.motion with phase := .pre, phaseTimer := some s.settings.preTime }
              ∧ Told [] [.pre] s t
            else if s.motion.holds ≠ ⟨false, false, false⟩ then
              s.HeldNoLeg t ∧ t.motion.holds = s.motion.holds ∧ Told [] [.pre, .held] s t
            else
              s.StartedFromRest t ∧ t.motion.holds = s.motion.holds
              ∧ Told [] [.pre, t.motion.phase] s t

/-- PRE and DWELL end by the first line that holds of R29 and R38: to HELD with a hold reason, to
POST with QUEUE_EMPTY when no leg is pending, to POST without the permit, else the head leg starts
from rest. An end that is not due has no effect (log 3). POST ends with the brake applied, the
servo-hold latch taking its setting, the phase IDLE and drive enable re-derived, a fall of it told
to the Seat Monitor (R39, R53). Undue, POST_END has no effect (log 3). -/
def Obligations.TimedPhasesEnd : Prop :=
  (∀ s : State, s.inReset = false →
     ∀ x ∈ ([(.preEnd, .pre), (.dwellEnd, .dwell)] : List (Instr × Phase)),
       ∃ t, exec x.1 s = .next t
         ∧ if s.motion.phase = x.2 ∧ s.motion.phaseTimer = some 0 then
             SameBut [.records, .motion, .drive, .seats, .model] s t
             ∧ if s.motion.holds ≠ ⟨false, false, false⟩ then
                 s.HeldNoLeg t ∧ t.motion.holds = s.motion.holds ∧ Told [] [.held] s t
                 ∧ t.drive = s.drive
               else if s.motion.queue = [] ∨ s.permit.state ≠ .granted then
                 s.InPost t ∧ t.motion.queue = s.motion.queue
                 ∧ Told (if s.motion.queue = [] then [.queueEmpty] else [])
                     (if s.settings.postTime = 0 then [.post, .idle] else [.post]) s t
               else
                 s.StartedFromRest t ∧ t.motion.holds = s.motion.holds
                 ∧ Told [] [t.motion.phase] s t
                 ∧ t.drive = { s.drive with accumulator := 0, residual := 0 }
           else t = s)
  ∧ (∀ s : State, s.inReset = false →
       ∃ t, exec .postEnd s = .next t
         ∧ if s.motion.phase = .post ∧ s.motion.phaseTimer = some 0 then
             t.motion = { s.motion with
               phase := .idle, phaseTimer := none, servoLatch := s.settings.servoHold }
             ∧ t.drive.brakeRelease = false
             ∧ t.drive.enable = (s.settings.servoHold || s.tt.phase != .idle)
             ∧ (s.drive.enable = true → s.seats.driveTold = true → t.seats.driveTold = t.drive.enable)
             ∧ t.drive.direction = s.drive.direction
             ∧ Told [] [.idle] s t
             ∧ SameBut [.records, .motion, .drive, .seats, .model] s t
           else t = s)

/-! ## Holds, stops and faults -/

/-- Hold puts RIDE (port A) or SHOW (port C) into the hold reason set, and Release Hold removes RIDE
(port A), SHOW or SCENE with its timer (port C); the other combinations are refused (R61, R62, R63).
While the set does not become non-empty, or empty, nothing else changes. The SCENE timer's expiry
removes SCENE from the set and makes the timer absent, and with another reason in the set nothing
else; an expiry that is not due has no effect (R63, log 3). -/
def Obligations.HoldReasons : Prop :=
  (∀ (p : Port) (reason : Byte) (s : State), s.inReset = false →
     (∃ t, exec (.hold p) s = .next t
       ∧ match p with
         | .b => RefusedOn p .rights 0x24 s t
         | _ => t.motion.holds = ⟨s.motion.holds.ride || p = .a, s.motion.holds.shows || p = .c,
               s.motion.holds.scene⟩
             ∧ (s.motion.holds ≠ ⟨false, false, false⟩ →
                 t.motion = { s.motion with holds := t.motion.holds } ∧ SameBut [.framing, .motion] s t))
     ∧ ∃ t, exec (.releaseHold p reason) s = .next t
       ∧ match p, reason.toNat with
         | .b, _ | .a, 1 | .a, 2 | .c, 0 => RefusedOn p .rights 0x25 s t
         | .a, 0 => t.motion.holds = { s.motion.holds with ride := false }
             ∧ t.motion.sceneTimer = s.motion.sceneTimer
             ∧ (s.motion.holds = ⟨false, false, false⟩ ∨ t.motion.holds ≠ ⟨false, false, false⟩ →
                 t.motion = { s.motion with holds := t.motion.holds } ∧ SameBut [.framing, .motion] s t)
         | .c, 1 => t.motion.holds = { s.motion.holds with shows := false }
             ∧ t.motion.sceneTimer = s.motion.sceneTimer
             ∧ (s.motion.holds = ⟨false, false, false⟩ ∨ t.motion.holds ≠ ⟨false, false, false⟩ →
                 t.motion = { s.motion with holds := t.motion.holds } ∧ SameBut [.framing, .motion] s t)
         | .c, 2 => t.motion.holds = { s.motion.holds with scene := false }
             ∧ t.motion.sceneTimer = none
             ∧ (s.motion.holds = ⟨false, false, false⟩ ∨ t.motion.holds ≠ ⟨false, false, false⟩ →
                 t.motion = { s.motion with holds := t.motion.holds, sceneTimer := none }
                 ∧ SameBut [.framing, .motion] s t)
         | _, _ => RefusedOn p .range 0x25 s t)
  ∧ (∀ s : State, s.inReset = false →
       ∃ t, exec .sceneTimerExpiry s = .next t
         ∧ if s.motion.sceneTimer = some 0 then
             t.motion.sceneTimer = none ∧ t.motion.holds = { s.motion.holds with scene := false }
             ∧ (s.motion.holds.ride = true ∨ s.motion.holds.shows = true →
                 t.motion = { s.motion with holds := t.motion.holds, sceneTimer := none }
                 ∧ SameBut [.motion] s t)
           else t = s)

/-- When the first hold reason joins the set (R64): a moving leg begins a retreat, its exit step
becoming 0, and the phase is HOLDING; PRE and DWELL are left for HELD with no leg; elsewhere only
the set changes. A retreat begun at effective step 0 is at rest with h 0 (log 16). When the last
hold reason leaves the set (R65), by Release Hold or by the SCENE timer: from HELD to POST without
the permit, else the leg resumes from step 0, or the head of the queue starts, or with none
QUEUE_EMPTY and POST; from HOLDING a leg that has taken its marker goes on in DECEL, and any other
cancels its retreat with its step lowered to the effective step of the last profile operation, if
that is lower, be it a leg before it (log 37); elsewhere only the set changes, in PRE by the model's
choice (log 41). -/
def Obligations.HoldsBeginAndEnd : Prop :=
  (∀ (p : Port) (s : State), s.inReset = false → p ≠ .b →
     s.motion.holds = ⟨false, false, false⟩ →
     ∃ t, exec (.hold p) s = .next t
       ∧ (s.onMotion fun m => { m with holds := ⟨p = .a, p = .c, false⟩ }).HoldBegun t)
  ∧ (∀ s : State, s.inReset = false →
       ∀ x ∈ ([(.releaseHold .a 0, ⟨true, false, false⟩), (.releaseHold .c 1, ⟨false, true, false⟩),
           (.releaseHold .c 2, ⟨false, false, true⟩), (.sceneTimerExpiry, ⟨false, false, true⟩)] :
           List (Instr × HoldSet)),
         s.motion.holds = x.2 → (x.1 = .sceneTimerExpiry → s.motion.sceneTimer = some 0) →
         ∃ t, exec x.1 s = .next t ∧ t.motion.holds = ⟨false, false, false⟩
           ∧ t.motion.lastEnded = s.motion.lastEnded
           ∧ (x.2.scene = true → t.motion.sceneTimer = none)
           ∧ SameBut [.framing, .records, .motion, .drive, .seats, .model] s t
           ∧ match s.motion.phase, s.motion.current with
             | .held, cur =>
               if s.permit.state ≠ .granted then
                 s.InPost t ∧ t.motion.queue = s.motion.queue
               else
                 (match cur, s.motion.queue with
                 | some c, _ =>
                   t.motion.current = some { c with
                       kLeg := 0, stepDistance := 0, kEff := none,
                       exitStep := if c.leg.seek.isSome then some 0 else none }
                   ∧ t.motion.phase = (if c.leg.top = 0 then .cruise else .accel)
                   ∧ t.motion.retreat = none ∧ t.motion.queue = s.motion.queue
                   ∧ t.drive = { s.drive with accumulator := 0, residual := 0 }
                 | none, [] => s.InPost t ∧ t.motion.queue = []
                     ∧ (∀ p, (t.ports.get p).events &&& Event.queueEmpty.flag ≠ 0)
                 | none, l :: rest =>
                   t.motion.current = some (l.atStart s.settings.rampCount) ∧ t.motion.queue = rest
                   ∧ t.motion.phase
                     = (if min l.top (s.settings.rampCount - 1) = 0 then .cruise else .accel)
                   ∧ t.drive = { s.drive with accumulator := 0, residual := 0 })
             | .holding, some c =>
               t.drive = s.drive ∧ t.motion.queue = s.motion.queue
               ∧ if c.leg.seek.isSome ∧ c.markerTaken then
                   t.motion.phase = .decel ∧ t.motion.current = some c
                   ∧ t.motion.retreat = s.motion.retreat
                 else
                   t.motion.current = some { c with
                       kLeg := min c.kLeg (s.motion.lastEff.getD c.kLeg),
                       stepDistance := if s.motion.lastEff.getD c.kLeg < c.kLeg then 0
                         else c.stepDistance }
                   ∧ t.motion.retreat = none
                   ∧ t.motion.phase
                     = (if c.leg.top ≤ min c.kLeg (s.motion.lastEff.getD c.kLeg) then .cruise else .accel)
             | _, _ => t.motion.phase = s.motion.phase ∧ t.motion.current = s.motion.current
                 ∧ t.motion.queue = s.motion.queue ∧ t.drive = s.drive)

/-- Soft Stop (R69): a moving vehicle flushes its queue and holds, retreats and stops in STOPPING
with the port's cause pending; in PRE, DWELL and HELD the stop completes at once in POST (R70); in
the other phases it has no effect. A retreat begun at effective step 0 is at rest with h 0 (log 16).
Hard Stop and Reset Section MOTION outside FAULTED (R71, R79): everything stops at once in IDLE, the
last stop is recorded, STOPPED latched, and a vehicle that was moving raises a show stop with cause
HARD_STOP in cues, effects and sound (R78). A turntable run in flight ends CUT with its record and
event, and in TT_IDLE the axis is left as it is (R91). In FAULTED a hard stop has no effect, and the
reset ends all but the phase, the fault record and the last stop, the turntable run included. -/
def Obligations.Stops : Prop :=
  (∀ (p : Port) (s : State), s.inReset = false →
     ∃ t, exec (.softStop p) s = .next t
       ∧ if p = .c then RefusedOn p .rights 0x26 s t
         else
           match s.motion.phase with
           | .accel | .cruise | .decel | .holding =>
             t.motion.phase = .stopping ∧ t.motion.queue = []
             ∧ t.motion.pendingStop = some (if p = .a then .commandA else .commandB)
             ∧ t.motion.holds = ⟨false, false, false⟩ ∧ t.motion.sceneTimer = none
             ∧ (match s.motion.retreat, s.motion.current with
               | some r, c => t.motion.retreat = some r
                   ∧ t.motion.current = c.map fun c =>
                     { c with exitStep := c.exitStep.map fun _ => 0 }
               | none, some c =>
                 t.motion.current = some { c with exitStep := c.exitStep.map fun _ => 0 }
                 ∧ t.motion.retreat = some
                   (if c.kEff.getD c.kLeg = 0 then ⟨0, 0, true, false⟩
                    else ⟨c.kEff.getD c.kLeg - 1, 0, false, false⟩)
               | none, none => t.motion.retreat = none)
             ∧ t.motion.lastStop = s.motion.lastStop
             ∧ Told [] [.stopping] s t ∧ SameBut [.framing, .records, .motion] s t
           | .pre | .dwell | .held =>
             s.InPost t ∧ t.motion.queue = [] ∧ t.motion.holds = ⟨false, false, false⟩
             ∧ t.motion.sceneTimer = none ∧ t.motion.pendingStop = none
             ∧ t.motion.lastStop = some ⟨.soft, if p = .a then .commandA else .commandB⟩
             ∧ Told [.stopped] (if s.settings.postTime = 0 then [.post, .idle] else [.post]) s t
             ∧ SameBut [.framing, .records, .motion, .drive, .seats, .model] s t
           | _ => SameBut [.framing] s t)
  ∧ (∀ (p : Port) (s : State), s.inReset = false →
       ∀ x ∈ ([(.hardStop p, 0x27, .c, if p = .a then .commandA else .commandB),
           (.resetSectionMotion p, 0x04, .b, .sectionReset)] :
           List (Instr × Byte × Port × StopCause)),
         ∃ t, exec x.1 s = .next t
           ∧ if p = x.2.2.1 ∨ (x.2.2.2 = .sectionReset ∧ p ≠ .a) then RefusedOn p .rights x.2.1 s t
             else if s.motion.phase ≠ .faulted then
               t.Stopped ∧ t.motion.phase = .idle ∧ t.motion.lastStop = some ⟨.hard, x.2.2.2⟩
               ∧ t.motion.lastEnded = s.motion.lastEnded ∧ t.motion.fault = s.motion.fault
               ∧ s.RunCut t ∧ t.tt.position = s.tt.position
               ∧ (s.tt.phase = .idle → t.tt = s.tt)
               ∧ (∀ q, (t.ports.get q).events &&& Event.stopped.flag ≠ 0)
               ∧ t.cues.engine = (if s.motion.phase.moves ∧ s.cues.engine = .armed then .suppressed
                   else s.cues.engine)
               ∧ (if s.motion.phase.moves then s.ShowStopped .hardStop t
                  else t.sound = s.sound ∧ t.effects = s.effects)
               ∧ SameBut [.framing, .records, .motion, .drive, .turntable, .seats, .cues, .effects,
                   .sound, .model] s t
             else if x.2.2.2 = .sectionReset then
               t.Stopped ∧ t.motion.phase = .faulted ∧ t.motion.fault = s.motion.fault
               ∧ t.motion.extraFaults = s.motion.extraFaults ∧ t.motion.lastStop = s.motion.lastStop
               ∧ s.RunCut t ∧ t.tt.position = s.tt.position ∧ (s.tt.phase = .idle → t.tt = s.tt)
               ∧ SameBut [.framing, .records, .motion, .drive, .turntable, .seats, .model] s t
             else SameBut [.framing] s t)

/-- A fault report outside FAULTED stops everything, records cause, position and tag, enters
FAULTED, ends the permit with cause MOTION_FAULT and raises a show stop with that cause in cues,
effects and sound (R75, R78, R115); in FAULTED it raises the extra-fault count, cuts the output and
stops the turntable (R76). Either way a run in flight ends CUT with its record and event, and in
TT_IDLE the axis is left as it is (R91). Clear Motion Fault (R77): from port B in FAULTED it clears
record and extra-fault count, zeroes the encoder error counts, clears the conditions, enters IDLE
and re-derives drive enable. -/
def Obligations.MotionFaults : Prop :=
  (∀ (cause : FaultCause) (s : State),
     (s.motion.phase ≠ .faulted →
       (s.report cause).Stopped ∧ (s.report cause).motion.phase = .faulted
       ∧ (s.report cause).motion.fault
         = some ⟨cause, s.route.position, s.motion.current.map (·.leg.tag)⟩
       ∧ (s.report cause).motion.extraFaults = s.motion.extraFaults
       ∧ (s.report cause).motion.lastStop = s.motion.lastStop
       ∧ (∀ q, ((s.report cause).ports.get q).events &&& Event.motionFault.flag ≠ 0)
       ∧ (s.report cause).permit = (if s.permit.state = .noPermit then s.permit
           else { s.permit with
             state := .noPermit, concurRemaining := none, consentRemaining := none,
             periodWindow := none, lowGiven := none, lastLoss := .motionFault })
       ∧ (s.report cause).cues.engine ≠ .armed ∧ s.ShowStopped .motionFault (s.report cause)
       ∧ s.RunCut (s.report cause) ∧ (s.report cause).tt.position = s.tt.position
       ∧ (s.tt.phase = .idle → (s.report cause).tt = s.tt)
       ∧ SameBut [.records, .motion, .drive, .turntable, .seats, .permit, .cues, .effects, .sound,
           .model] s (s.report cause))
     ∧ (s.motion.phase = .faulted →
       (s.report cause).motion
         = { s.motion with extraFaults := min 255 (s.motion.extraFaults + 1) }
       ∧ (s.report cause).drive.accumulator = 0 ∧ (s.report cause).drive.residual = 0
       ∧ (s.report cause).drive.brakeRelease = false
       ∧ (∀ i, ((s.report cause).drive.plan.get i).remaining = 0)
       ∧ (s.report cause).drive.enable = s.motion.servoLatch ∧ s.RunCut (s.report cause)
       ∧ (s.report cause).tt.position = s.tt.position
       ∧ (s.tt.phase = .idle → (s.report cause).tt = s.tt)
       ∧ SameBut [.records, .motion, .drive, .turntable, .seats, .model] s (s.report cause)))
  ∧ (∀ (p : Port) (s : State), s.inReset = false →
       ∃ t, exec (.clearMotionFault p) s = .next t
         ∧ if p ≠ .b then RefusedOn p .rights 0x28 s t
           else if s.motion.phase ≠ .faulted then RefusedOn p .state 0x28 s t
           else
             t.motion = { s.motion with phase := .idle, fault := none, extraFaults := 0 }
             ∧ t.route = { s.route with errors := ⟨0, 0, 0⟩, conditions := ⟨false, false, false⟩ }
             ∧ t.drive.enable = (s.tt.phase != .idle || s.motion.servoLatch)
             ∧ Told [] [.idle] s t
             ∧ SameBut [.framing, .records, .route, .motion, .drive, .seats, .model] s t)

/-! ## Motion Generator: the tick and the ends of legs -/

/-- The profile operation of a motion tick, no end being due before it (log 4, 5), whose close
leaves the leg running (R32 to R35, R44, R45, R47 to R49, R67): the advance at the effective step,
limited to Rem, its split between the wheels with the residual, the approach latch, the descent or
the one rise of the leg's step, and the retreat's step, kept with the mark that a profile operation
has run since it began (log 16); the model's own field lastEff keeps the effective step (log 37). -/
def Obligations.TickRunsTheProfile : Prop :=
  ∀ (pins : Pins) (s : State), s.inReset = false → s.settleMotion = s →
    ∀ u : State, u = (((s.withPins pins).onDrive (·.tickEnded)).timersFall).tickClose →
    u.motion.phase.moves = true → ∀ c, u.motion.current = some c →
    ∀ k, k = (match u.motion.retreat with | none => c.kLeg | some r => min c.kLeg r.h) →
    ∀ rate, rate = (if u.motion.retreat.any (·.atRest) then 0 else (rampStepOf u.settings.ramp k).rate) →
    ∀ adv, adv = min ((u.drive.accumulator + 2 * rate) / 1000) c.rem →
    ∀ n, n = adv * (1024 + c.leg.steer).toNat + u.drive.residual →
    ∀ B : Nat → Nat, B = u.settings.braking →
    ∃ t, exec (.motionTick pins .asSteps) s = .next t
      ∧ t.drive.accumulator
        = (if (u.drive.accumulator + 2 * rate) / 1000 ≤ c.rem then
            (u.drive.accumulator + 2 * rate) % 1000 else 0)
      ∧ t.drive.residual = n % 2048
      ∧ t.drive.plan.left = ⟨n / 2048, n / 2048, 0⟩
      ∧ t.drive.plan.right = ⟨adv - n / 2048, adv - n / 2048, 0⟩
      ∧ t.drive.direction.left = c.leg.direction ∧ t.drive.direction.right = c.leg.direction
      ∧ t.drive.commanded.left = (match c.leg.direction with
          | .fwd => u.drive.commanded.left + BitVec.ofNat 32 (n / 2048)
          | .rev => u.drive.commanded.left - BitVec.ofNat 32 (n / 2048))
      ∧ t.drive.commanded.right = (match c.leg.direction with
          | .fwd => u.drive.commanded.right + BitVec.ofNat 32 (adv - n / 2048)
          | .rev => u.drive.commanded.right - BitVec.ofNat 32 (adv - n / 2048))
      ∧ t.drive.enable = u.drive.enable ∧ t.drive.brakeRelease = u.drive.brakeRelease
      ∧ t.motion.retreat = u.motion.retreat.map (fun r =>
          if r.atRest then { r with ticked := true }
          else if r.distance + adv < (rampStepOf u.settings.ramp r.h).length then
            { r with distance := r.distance + adv, ticked := true }
          else if r.h = 0 then
            { r with distance := r.distance + adv, atRest := true, ticked := true }
          else { r with h := r.h - 1, distance := 0, ticked := true })
      ∧ t.motion.queue = u.motion.queue ∧ t.motion.holds = u.motion.holds
      ∧ t.motion.lastEnded = u.motion.lastEnded ∧ t.motion.lastEff = some k
      ∧ ∃ x, t.motion.current = some x ∧ x.leg = c.leg ∧ x.rem = c.rem - adv ∧ x.kEff = some k
        ∧ x.markerTaken = c.markerTaken
        ∧ x.exitStep = (if c.exitStep = none ∧ c.leg.seek = none ∧ x.rem ≤ B c.leg.top then
            some (match u.motion.retreat, u.motion.queue with
              | none, l :: _ =>
                if l.flow = true ∧ l.direction = c.leg.direction then
                  min (min l.top (u.settings.rampCount - 1)) c.leg.top else 0
              | _, _ => 0)
          else c.exitStep)
        ∧ if x.exitStep.getD 0 < c.kLeg ∧ x.rem ≤ B c.kLeg - B (x.exitStep.getD 0) then
            x.kLeg < c.kLeg ∧ x.exitStep.getD 0 ≤ x.kLeg ∧ x.stepDistance = 0
            ∧ ¬ (x.exitStep.getD 0 < x.kLeg ∧ x.rem ≤ B x.kLeg - B (x.exitStep.getD 0))
            ∧ (∀ j : Fin c.kLeg, x.kLeg < j → x.rem ≤ B j - B (x.exitStep.getD 0))
            ∧ t.motion.phase = (if u.motion.phase = .accel ∨ u.motion.phase = .cruise then .decel
                else u.motion.phase)
          else if (u.motion.phase = .accel ∨ u.motion.phase = .cruise) ∧ u.motion.retreat = none
              ∧ c.kLeg < c.leg.top
              ∧ (rampStepOf u.settings.ramp c.kLeg).length ≤ min 16777215 (c.stepDistance + adv)
              ∧ (B (c.kLeg + 1) : Int) - B (x.exitStep.getD 0) < x.rem then
            x.kLeg = c.kLeg + 1 ∧ x.stepDistance = 0
            ∧ t.motion.phase = (if c.leg.top ≤ c.kLeg + 1 then .cruise else .accel)
          else
            x.kLeg = c.kLeg ∧ x.stepDistance = min 16777215 (c.stepDistance + adv)
            ∧ t.motion.phase = u.motion.phase

/-- The close of a motion tick (R4, R5, R6, R50, R82): in every engine state the deltas are handed
on and start again at 0, the route position takes the wheels' counts within its range and the
turntable position its own modulo M; outside ARMED, where no action runs, the measured counts take
them while drive enable is on, and the timers fall by one. An arrival at an end of the range from
inside loses the position and is a motion fault, reported before the sample is passed and before the
measured counts take theirs (log 5, 15), and leaves drive enable off, the servo-hold latch being off
in FAULTED (DriveSafe). The row closes one tick and starts the next (log 6), its ends follow as
steps or within it (log 4), and the marker framer's gap timer counts ticks (log 34). In every engine
state the close passes the sample from the old position to the new (R5, R139): each unfired cue that
it crosses is marked, and the cues stand as `State.sample` leaves them, a fault that the drives then
report turning ARMED to SUPPRESSED. The rest of the close works on what the sample left: while drive
enable is on it takes the measured counts and reports the axes whose following error exceeds their
limit, then the asserted alarms, each in the order left, right, turntable: the first is the fault,
the rest raise the extra-fault count, and a turntable run in flight ends CUT (R91); while it is off
nothing is reported (R51, R56, R75, R76). -/
def Obligations.TickClosesTheCounts : Prop :=
  (∀ (pins : Pins) (s : State), s.inReset = false → s.settleMotion = s →
     ∀ sum : Int, sum = s.route.position + s.route.delta.left + s.route.delta.right →
     ∀ now : Int, now = max Config.positionMin (min sum Config.positionMax) →
     ∃ t, exec (.motionTick pins .asSteps) s = .next t
       ∧ exec (.motionTick pins .inTick) s = .next t.settleMotion
       ∧ t.pins = pins
       ∧ t.route = { s.route with
           delta := ⟨0, 0, 0⟩, position := now,
           framer := s.route.framer.map fun x => ⟨x.byte, x.gap.map (· - 1)⟩,
           lost := s.route.lost || decide (sum ≠ now ∧ s.route.position ≠ now) }
       ∧ (s.cues.engine ≠ .armed → s.DriveSafe → ∀ i, t.drive.measured.get i
         = if s.drive.enable = true ∧ (sum = now ∨ s.route.position = now) then
             s.drive.measured.get i + BitVec.ofInt 32 (s.route.delta.get i)
           else s.drive.measured.get i)
       ∧ t.tt.position = ((s.tt.position + (s.route.delta.turntable - s.tt.indexPart)).emod
           s.settings.countsPerRevolution).toNat
       ∧ t.tt.indexPart = 0 ∧ t.tt.homed = s.tt.homed
       ∧ (sum ≠ now ∧ s.route.position ≠ now → t.motion.phase = .faulted)
       ∧ (s.cues.engine ≠ .armed → t.motion.phase ≠ .faulted →
           t.motion.phaseTimer = s.motion.phaseTimer.map (· - 1)
           ∧ t.motion.sceneTimer = s.motion.sceneTimer.map (· - 1)
           ∧ t.tt.timer = s.tt.timer.map (· - 1)))
  ∧ (∀ (pins : Pins) (s : State), s.inReset = false → s.settleMotion = s →
       ∀ before : Int, before = s.route.position →
       ∀ sum : Int, sum = before + s.route.delta.left + s.route.delta.right →
       ∀ now : Int, now = max Config.positionMin (min sum Config.positionMax) →
       ∀ w : State, w = ((s.withPins pins).onDrive (·.tickEnded)).timersFall →
       ∀ x : State, x = w.onRoute (fun r => { r with delta := ⟨0, 0, 0⟩, position := now }) →
       ∀ y : State, y = (if sum = now ∨ before = now then x
         else (if s.route.lost = true then x
           else (x.onRoute fun r => { r with lost := true }).latch .positionLost).report
             .positionRange) →
       ∀ u : State, u = y.sample before now →
       ∀ M : Axis → BitVec 32,
       M = (fun i => u.drive.measured.get i
         + if u.drive.enable = true then BitVec.ofInt 32 (s.route.delta.get i) else 0) →
       ∀ E : Axis → Int, E = (fun i => (u.drive.commanded.get i - M i).toInt) →
       ∀ causes : List FaultCause,
       causes = (if u.drive.enable = true then
         (if s.settings.wheelFollowingLimit < (E .left).natAbs then [.followLeft] else [])
         ++ (if s.settings.wheelFollowingLimit < (E .right).natAbs then [.followRight] else [])
         ++ (if s.settings.turntableFollowingLimit < (E .turntable).natAbs then [.followTurntable]
             else [])
         ++ (if pins.alarm.left then [.alarmLeft] else [])
         ++ (if pins.alarm.right then [.alarmRight] else [])
         ++ (if pins.alarm.turntable then [.alarmTurntable] else [])
         else []) →
       (∃ z : State, SameBut [.drive, .turntable] u z
         ∧ z.drive = { u.drive with measured := ⟨M .left, M .right, M .turntable⟩ }
         ∧ z.tt = { u.tt with
             position := ((s.tt.position + (s.route.delta.turntable - s.tt.indexPart)).emod
               s.settings.countsPerRevolution).toNat, indexPart := 0 }
         ∧ w.tickClose = causes.foldl (fun v cause => v.report cause) z)
       ∧ ∃ t, exec (.motionTick pins .asSteps) s = .next t
         ∧ (∀ i : Fin 64, t.slot i = (s.slot i).map fun c =>
             if s.cues.engine ≠ .disarmed ∧ c.fired = false
                 ∧ ((before < now ∧ c.direction ≠ .rev ∧ before < c.trigger ∧ c.trigger ≤ now)
                   ∨ (now < before ∧ c.direction ≠ .fwd ∧ now ≤ c.trigger ∧ c.trigger < before)) then
               { c with fired := true }
             else c)
         ∧ t.cues = { u.cues with
             engine := if u.motion.phase ≠ .faulted ∧ causes ≠ [] ∧ u.cues.engine = .armed then
                 .suppressed
               else u.cues.engine }
         ∧ (∀ i, t.drive.measured.get i = M i)
         ∧ (u.motion.phase = .faulted ∨ causes = [] → t.effects = u.effects)
         ∧ (t.motion.phase ≠ .faulted →
             t.motion.phaseTimer = u.motion.phaseTimer ∧ t.motion.sceneTimer = u.motion.sceneTimer
             ∧ t.tt.timer = u.tt.timer)
         ∧ match decide (u.motion.phase = .faulted), causes with
           | _, [] => (t.motion.phase = .faulted ↔ u.motion.phase = .faulted)
               ∧ t.motion.fault = u.motion.fault ∧ t.motion.extraFaults = u.motion.extraFaults
               ∧ t.drive.enable = u.drive.enable
           | false, cause :: more =>
             t.Stopped ∧ t.motion.phase = .faulted ∧ u.RunCut t
             ∧ t.motion.fault = some ⟨cause, now, u.motion.current.map (·.leg.tag)⟩
             ∧ (u.motion.extraFaults ≤ 255 →
                 t.motion.extraFaults = min 255 (u.motion.extraFaults + more.length))
           | true, _ :: more =>
             t.motion.phase = .faulted ∧ t.motion.fault = u.motion.fault ∧ u.RunCut t
             ∧ t.drive.enable = u.motion.servoLatch
             ∧ t.motion.extraFaults = min 255 (u.motion.extraFaults + (more.length + 1)))

/-- The end of a leg whose Rem is 0 (R36 to R38): the last ended leg with its outcome and events,
then POST with the stop completed in STOPPING, HELD in HOLDING, the flow join, or DWELL, which a
dwell of 0 leaves at once. An end that is not due has no effect (log 3). A retreat that a tick has
left at rest with Rem above 0 (R67, R68): in HOLDING the leg is kept at step 0 in HELD, in STOPPING
it is discarded and the stop completes in POST, and a SEEK that has taken its marker ends SEEK_DONE,
from DECEL to DWELL. In every other case nothing happens (log 3), and a retreat that no profile
operation has run for is such a case (log 16). -/
def Obligations.LegEnds : Prop :=
  (∀ s : State, s.inReset = false →
     ∃ t, exec .legEnd s = .next t
       ∧ match s.motion.current with
         | none => t = s
         | some c =>
           if ¬ (s.motion.phase.moves = true ∧ c.rem = 0) then t = s
           else
             SameBut [.records, .motion, .drive, .seats, .model] s t
             ∧ t.motion.lastEnded = some ⟨c.leg.tag, if c.leg.seek = none then .done
                 else if c.markerTaken then .seekDone else .seekFailed⟩
             ∧ (∀ p, (t.ports.get p).events &&& Event.legDone.flag ≠ 0)
             ∧ (c.leg.seek ≠ none → ∀ p, (t.ports.get p).events
                 &&& (if c.markerTaken then Event.seekDone.flag else Event.seekFailed.flag) ≠ 0)
             ∧ match s.motion.phase, s.motion.queue with
               | .stopping, _ =>
                 s.InPost t ∧ t.motion.queue = s.motion.queue ∧ t.motion.pendingStop = none
                 ∧ (∀ cause, s.motion.pendingStop = some cause →
                     t.motion.lastStop = some ⟨.soft, cause⟩)
                 ∧ (∀ p, (t.ports.get p).events &&& Event.stopped.flag ≠ 0)
               | .holding, _ =>
                 s.HeldNoLeg t ∧ t.motion.holds = s.motion.holds ∧ t.drive = s.drive
               | _, queue =>
                 (match queue, decide (0 < c.exitStep.getD 0) with
                 | l :: rest, true =>
                   t.motion = { s.motion with
                     lastEnded := t.motion.lastEnded, queue := rest, retreat := none,
                     current := some { l.atStart s.settings.rampCount with
                       kLeg := c.kLeg, stepDistance := c.stepDistance },
                     phase := if min l.top (s.settings.rampCount - 1) ≤ c.kLeg then .cruise
                       else .accel }
                   ∧ t.drive = s.drive
                 | _, _ =>
                   if 0 < c.leg.dwell then
                     t.motion = { s.motion with
                       lastEnded := t.motion.lastEnded, phase := .dwell, current := none,
                       retreat := none, phaseTimer := some c.leg.dwell }
                     ∧ t.drive = s.drive
                   else if s.motion.holds ≠ ⟨false, false, false⟩ then s.HeldNoLeg t
                   else if queue = [] ∨ s.permit.state ≠ .granted then
                     s.InPost t ∧ t.motion.queue = queue
                   else
                     t.motion.current.isSome ∧ t.motion.queue = queue.drop 1
                     ∧ t.drive = { s.drive with accumulator := 0, residual := 0 }))
  ∧ (∀ s : State, s.inReset = false →
       ∃ t, exec .retreatAtRest s = .next t
         ∧ SameBut [.records, .motion, .drive, .seats, .model] s t
         ∧ match s.motion.current, s.motion.retreat with
           | some c, some r =>
             if r.atRest = false ∨ r.ticked = false ∨ c.rem = 0 then t = s
             else
               (match s.motion.phase, decide (c.leg.seek ≠ none) && c.markerTaken with
               | .holding, false =>
                 t.motion = { s.motion with
                   phase := .held, retreat := none,
                   current := some { c with kLeg := 0, stepDistance := 0, kEff := none } }
                 ∧ Told [] [.held] s t ∧ t.drive = s.drive
               | .holding, true =>
                 s.HeldNoLeg t ∧ t.motion.lastEnded = some ⟨c.leg.tag, .seekDone⟩
                 ∧ Told [.legDone, .seekDone] [.held] s t ∧ t.drive = s.drive
               | .stopping, taken =>
                 s.InPost t ∧ t.motion.queue = s.motion.queue ∧ t.motion.pendingStop = none
                 ∧ (∀ cause, s.motion.pendingStop = some cause →
                     t.motion.lastStop = some ⟨.soft, cause⟩)
                 ∧ (if taken then t.motion.lastEnded = some ⟨c.leg.tag, .seekDone⟩
                    else t.motion.lastEnded = s.motion.lastEnded)
                 ∧ Told (if taken then [.legDone, .seekDone, .stopped] else [.stopped])
                     (if s.settings.postTime = 0 then [.post, .idle] else [.post]) s t
               | .decel, true =>
                 t.motion.lastEnded = some ⟨c.leg.tag, .seekDone⟩ ∧ t.motion.retreat = none
                 ∧ (0 < c.leg.dwell → t.motion.phase = .dwell ∧ t.motion.current = none
                     ∧ t.motion.phaseTimer = some c.leg.dwell ∧ t.drive = s.drive
                     ∧ Told [.legDone, .seekDone] [.dwell] s t)
               | _, _ => t = s)
           | _, _ => t = s)

/-! ## Turntable Axis -/

/-- Turn To by the tests of R84 in their order; the direction and the distance of R85; a distance of
0 completes at once, a turn starts in TT_TURNING while drive enable is on and in TT_PRE, raising it,
while it is off (R86), where an encoder condition still latched is a motion fault that cuts the run,
recorded CUT with TURN_DONE, and raises its show stop (R74, R75, R78, R91, log 12). Home Turntable
by the tests of R88 in their order: with a seat RELEASING, or without the permit and with a rider
seated, it is refused STATE, with a run in flight BUSY; taken, homed becomes no and a run of three
half revolutions forward starts in TT_HOMING, or in TT_PRE while drive enable is off, where a
condition still latched cuts it, recorded CUT with HOME_FAILED (R76, R91, log 12), outside FAULTED
as a first fault with its show stop (R75, R78). -/
def Obligations.TurnToAndHome : Prop :=
  (∀ (p : Port) (target : BitVec 16) (mode : Byte) (s : State), s.inReset = false →
     ∀ f : Nat, f = (((target.toNat : Int) - s.tt.position).emod s.settings.countsPerRevolution).toNat →
     ∀ way : Travel × Nat, way = (
       if mode = 0 then
         if f ≤ s.settings.countsPerRevolution / 2 then (.fwd, f)
         else (.rev, s.settings.countsPerRevolution - f)
       else if mode = 1 then (.fwd, f)
       else (.rev, (s.settings.countsPerRevolution - f) % s.settings.countsPerRevolution)) →
     ∀ md : TurnMode, md = (if mode = 0 then .short else if mode = 1 then .fwd else .rev) →
     ∀ run : Run, run = ⟨.turn target.toNat md, way.1, way.2, 0, none, 0, 0, none⟩ →
     ∃ t, exec (.turnTo p target mode) s = .next t
       ∧ if p = .b then RefusedOn p .rights 0x30 s t
         else if 2 < mode.toNat ∨ s.settings.countsPerRevolution ≤ target.toNat then
           RefusedOn p .range 0x30 s t
         else if s.tt.homed = false ∨ s.motion.phase = .faulted ∨ s.permit.state ≠ .granted then
           RefusedOn p .state 0x30 s t
         else if s.tt.phase ≠ .idle then RefusedOn p .busy 0x30 s t
         else if way.2 = 0 then
           t.tt = { s.tt with
             run := none, timer := none, lastTurn := some ⟨target.toNat, md, .done⟩ }
           ∧ Told [.turnDone] [] s t ∧ SameBut [.framing, .records, .turntable] s t
         else if s.drive.enable then
           t.tt = { s.tt with phase := .turning, timer := none, run := some run }
           ∧ SameBut [.framing, .turntable] s t
         else if s.route.conditions = ⟨false, false, false⟩ then
           t.tt = (if s.settings.preTime = 0 then
               { s.tt with phase := .turning, timer := none, run := some run }
             else { s.tt with
               phase := .pre, timer := some s.settings.preTime, run := some run })
           ∧ t.drive = { s.drive with enable := true, commanded := ⟨0, 0, 0⟩, measured := ⟨0, 0, 0⟩ }
           ∧ t.seats = { s.seats with driveTold := true }
           ∧ SameBut [.framing, .turntable, .drive, .seats] s t
         else t.motion.phase = .faulted ∧ t.Stopped ∧ t.tt.run = none ∧ t.tt.timer = none
           ∧ t.tt.lastTurn = some ⟨target.toNat, md, .cut⟩ ∧ t.tt.lastHome = s.tt.lastHome
           ∧ t.tt.homed = s.tt.homed ∧ t.tt.position = s.tt.position
           ∧ (∀ q, (t.ports.get q).events &&& Event.turnDone.flag ≠ 0)
           ∧ s.ShowStopped .motionFault t)
  ∧ (∀ (p : Port) (s : State), s.inReset = false →
       ∀ run : Run, run = ⟨.home, .fwd, 3 * s.settings.countsPerRevolution / 2, 0, none, 0, 0, none⟩ →
       ∃ t, exec (.homeTurntable p) s = .next t
         ∧ if p ≠ .a then RefusedOn p .rights 0x31 s t
           else if (∃ i, (s.seat i).state = .releasing) ∨ (s.permit.state ≠ .granted
               ∧ ∃ i, (s.seat i).state ≠ .notFitted ∧ (s.seat i).occupied = true) then
             RefusedOn p .state 0x31 s t
           else if s.tt.phase ≠ .idle then RefusedOn p .busy 0x31 s t
           else if s.drive.enable then
             t.tt = { s.tt with homed := false, phase := .homing, run := some run }
             ∧ SameBut [.framing, .turntable] s t
           else if s.route.conditions = ⟨false, false, false⟩ then
             t.tt = (if s.settings.preTime = 0 then
                 { s.tt with homed := false, phase := .homing, timer := none, run := some run }
               else { s.tt with
                 homed := false, phase := .pre, timer := some s.settings.preTime, run := some run })
             ∧ t.drive = { s.drive with enable := true, commanded := ⟨0, 0, 0⟩, measured := ⟨0, 0, 0⟩ }
             ∧ t.seats = { s.seats with driveTold := true }
             ∧ SameBut [.framing, .turntable, .drive, .seats] s t
           else
             t.motion.phase = .faulted ∧ t.tt.phase = .idle ∧ t.tt.homed = false ∧ t.tt.run = none
             ∧ t.tt.timer = none ∧ t.tt.lastHome = some .cut ∧ t.tt.lastTurn = s.tt.lastTurn
             ∧ t.tt.position = s.tt.position
             ∧ (∀ q, (t.ports.get q).events &&& Event.homeFailed.flag ≠ 0)
             ∧ (s.motion.phase ≠ .faulted → t.Stopped ∧ s.ShowStopped .motionFault t))

/-- The ends of a turntable run: TT_PRE starts the turn or the homing (R86), a turn ends DONE at Rem
0 (R87) and STOPPED at rest from a retreat (R90), a homing run ends at its limit (R89) or homed at
position 0 at an index event (R3, R89). Each end of a run makes TT_IDLE with its record and event
and re-derives drive enable (R53); an end that is not due has no effect (log 3), and a retreat's end
is due after a tick has run it (log 16). -/
def Obligations.TurntableEnds : Prop :=
  ∀ s : State, s.inReset = false →
    (∃ t, exec .ttPreEnd s = .next t
      ∧ match s.tt.run with
        | some r =>
          if s.tt.phase = .pre ∧ s.tt.timer = some 0 then
            (match r.kind with
            | .home => t.tt = { s.tt with phase := .homing, timer := none } ∧ SameBut [.turntable] s t
            | .turn target mode =>
              let way := turnDistance s.settings.countsPerRevolution s.tt.position target mode
              if way.2 = 0 then
                t.tt = { s.tt with phase := .idle, run := none, timer := none,
                                   lastTurn := some ⟨target, mode, .done⟩ }
                ∧ Told [.turnDone] [] s t
                ∧ t.drive.enable = (s.motion.phase.drives || s.motion.servoLatch)
                ∧ SameBut [.records, .turntable, .drive, .seats, .model] s t
              else
                t.tt = { s.tt with
                  phase := .turning, timer := none,
                  run := some ⟨.turn target mode, way.1, way.2, 0, none, 0, 0, none⟩ }
                ∧ t.drive.enable = true ∧ SameBut [.turntable, .drive, .seats] s t)
          else t = s
        | none => t = s)
    ∧ ∀ x ∈ ([(.turnEnd, .turnDone), (.turnRetreatAtRest, .turnDone), (.homingLimit, .homeFailed),
        (.turntableIndex, .homeDone)] : List (Instr × Event)),
      ∃ t, exec x.1 s = .next t
        ∧ match x.1, s.tt.phase, s.tt.run with
          | .turntableIndex, .homing, _ =>
            t.tt = { s.tt with
              phase := .idle, run := none, timer := none, position := 0, homed := true,
              lastHome := some .done, indexPart := s.route.delta.turntable }
            ∧ Told [x.2] [] s t ∧ (t.drive.plan.get .turntable).remaining = 0
            ∧ t.drive.enable = (s.motion.phase.drives || s.motion.servoLatch)
            ∧ SameBut [.records, .turntable, .drive, .seats, .model] s t
          | .homingLimit, .homing, some r =>
            if r.rem = 0 then
              t.tt = { s.tt with phase := .idle, run := none, timer := none,
                                 lastHome := some .limit }
              ∧ Told [x.2] [] s t ∧ (t.drive.plan.get .turntable).remaining = 0
              ∧ t.drive.enable = (s.motion.phase.drives || s.motion.servoLatch)
              ∧ SameBut [.records, .turntable, .drive, .seats, .model] s t
            else t = s
          | c, ph, some r =>
            (match r.kind with
            | .turn target mode =>
              if (c = .turnEnd ∨ c = .turnRetreatAtRest) ∧ (ph = .turning ∨ ph = .stopping)
                  ∧ (c = .turnEnd → r.rem = 0)
                  ∧ (c = .turnRetreatAtRest → 0 < r.rem
                      ∧ r.retreat.any (fun y => y.atRest && y.ticked) = true) then
                t.tt = { s.tt with
                  phase := .idle, run := none, timer := none,
                  lastTurn := some ⟨target, mode, if c = .turnEnd then .done else .stopped⟩ }
                ∧ Told [x.2] [] s t
                ∧ t.drive.enable = (s.motion.phase.drives || s.motion.servoLatch)
                ∧ SameBut [.records, .turntable, .drive, .seats, .model] s t
              else t = s
            | .home => t = s)
          | _, _, none => t = s

/-- One motion tick, no end being due before it (log 4, 5), of a run whose close leaves it in flight
(R48, R49, R87, R89, R90): the advance at the run's rate, limited to Rem, goes to plan, count and
direction; a turn's step falls or rises by the ramp and its retreat advances, marked as run (log
16); a homing run keeps step 0; with no run no pulse is due. -/
def Obligations.TickTurnsTheTable : Prop :=
  ∀ (pins : Pins) (s : State), s.inReset = false → s.settleMotion = s →
    ∀ u : State, u = (((s.withPins pins).onDrive (·.tickEnded)).timersFall).tickClose →
    ∃ t, exec (.motionTick pins .asSteps) s = .next t
      ∧ t.tt.phase = u.tt.phase ∧ t.tt.position = u.tt.position ∧ t.tt.timer = u.tt.timer
      ∧ t.tt.lastTurn = u.tt.lastTurn ∧ t.tt.lastHome = u.tt.lastHome ∧ t.tt.homed = u.tt.homed
      ∧ match u.tt.phase, u.tt.run with
        | .idle, r | .pre, r => t.tt.run = r ∧ t.drive.plan.turntable = ⟨0, 0, 0⟩
            ∧ t.drive.commanded.turntable = u.drive.commanded.turntable
        | _, none => t.tt.run = none ∧ t.drive.plan.turntable = ⟨0, 0, 0⟩
            ∧ t.drive.commanded.turntable = u.drive.commanded.turntable
        | ph, some r =>
          let k := if ph = .homing then 0
            else match r.retreat with | none => r.k | some x => min r.k x.h
          let rate := if ph ≠ .homing ∧ r.retreat.any (·.atRest) then 0
            else (rampStepOf u.settings.turntableRamp k).rate
          let q := (r.accumulator + rate) / 1000
          let dir := if ph = .homing then Travel.fwd else r.direction
          let B := u.settings.turnBraking
          t.drive.plan.turntable = ⟨min q r.rem, min q r.rem, 0⟩ ∧ t.drive.direction.turntable = dir
          ∧ t.drive.commanded.turntable = (match dir with
              | .fwd => u.drive.commanded.turntable + BitVec.ofNat 32 (min q r.rem)
              | .rev => u.drive.commanded.turntable - BitVec.ofNat 32 (min q r.rem))
          ∧ ∃ x, t.tt.run = some x ∧ x.kind = r.kind ∧ x.direction = r.direction
            ∧ x.rem = r.rem - min q r.rem ∧ x.kEff = some k
            ∧ x.accumulator = (if q ≤ r.rem then (r.accumulator + rate) % 1000 else 0)
            ∧ if ph = .homing then x.k = r.k ∧ x.retreat = r.retreat
              else
                x.retreat = r.retreat.map (fun y =>
                  if y.atRest then { y with ticked := true }
                  else if y.distance + min q r.rem
                      < (rampStepOf u.settings.turntableRamp y.h).length then
                    { y with distance := y.distance + min q r.rem, ticked := true }
                  else if y.h = 0 then
                    { y with distance := y.distance + min q r.rem, atRest := true, ticked := true }
                  else { y with h := y.h - 1, distance := 0, ticked := true })
                ∧ if 0 < r.k ∧ x.rem ≤ B r.k then
                    x.k < r.k ∧ x.stepDistance = 0 ∧ ¬ (0 < x.k ∧ x.rem ≤ B x.k)
                    ∧ ∀ j : Fin r.k, x.k < j → x.rem ≤ B j
                  else if r.retreat = none ∧ r.k < 3
                      ∧ (rampStepOf u.settings.turntableRamp r.k).length
                        ≤ r.stepDistance + min q r.rem
                      ∧ B (r.k + 1) < x.rem then
                    x.k = r.k + 1 ∧ x.stepDistance = 0
                  else x.k = r.k ∧ x.stepDistance = r.stepDistance + min q r.rem

/-! ## Seat Monitor -/

/-- A bar clock edge moves a fitted seat's bar position by one within 0 to 255 (R98); a CONFIRMED
seat whose bar position falls below the confirmed one by more than the slack goes to FAULT with
BAR_SENSOR, a seat change (R102, R104). The acceptance of a filtered lock pair (R96) makes the
candidate the filtered reading and acts by the table of R100: the new state, with its fault cause
(R103), or a completed release (R109). One that is not due has no effect (log 3). The end of the
occupancy filter turns the occupied field and returns a CONFIRMED seat to LOCKED, a seat change
either way (R97, R101, R104); the end of the pull-in puts the solenoid to HOLD (R108); the release
timeout puts the seat to FAULT with RELEASE_TIMEOUT and its solenoid off (R109). Each is due only
after the tick that reached it (log 4), and undue it has no effect (log 3). By the model's choices
an occupancy change that also changes the state is one seat change (log 14), a rider who sits down
stops a homing run, in TT_PRE or TT_HOMING (R90), whenever the permit is not GRANTED (log 27), and
pull-in time and timeout are those read when the release began (log 13). -/
def Obligations.SeatChanges : Prop :=
  (∀ (i : Fin 8) (lowering : Bool) (s : State), s.inReset = false →
     ∀ bar : Nat, bar = (if lowering then min 255 ((s.seat i).bar + 1) else (s.seat i).bar - 1) →
     ∃ t, exec (.barCountEdge i lowering) s = .next t
       ∧ if (s.seat i).state = .notFitted ∨ bar = (s.seat i).bar then t = s
         else if (s.seat i).state = .confirmed
             ∧ (s.seat i).confirmBar.any (bar + s.settings.barSlack < ·) = true then
           (t.seat i).bar = bar ∧ (t.seat i).cause = some .barSensor
           ∧ (t.seat i).confirmBar = none ∧ (t.seat i).confirmGeneration = none
           ∧ s.SeatChanged i .fault t
         else
           t.seat i = { s.seat i with bar := bar } ∧ (∀ j, j ≠ i → t.seat j = s.seat j)
           ∧ SameBut [.seats] s t)
  ∧ (∀ (i : Fin 8) (s : State), s.inReset = false →
       ∃ t, exec (.pairFilterAccept i) s = .next t
         ∧ match (s.seat i).pairDue && s.fitted i, (s.seat i).candidate with
           | true, some r =>
             (t.seat i).filtered = r ∧ (t.seat i).candidate = none ∧ (t.seat i).pairCount = 0
             ∧ (t.seat i).occupied = (s.seat i).occupied
             ∧ (match (s.seat i).state, r with
               | .isOpen, .locked => s.SeatChanged i .locked t
               | .locked, .unlocked => s.SeatChanged i .isOpen t
               | .isOpen, .disagreement | .locked, .disagreement | .confirmed, .disagreement =>
                 s.SeatChanged i .fault t ∧ (t.seat i).cause = some .pairDisagree
                 ∧ (t.seat i).confirmBar = none ∧ (t.seat i).confirmGeneration = none
               | .confirmed, .unlocked =>
                 s.SeatChanged i .fault t ∧ (t.seat i).cause = some .lockLost
                 ∧ (t.seat i).confirmBar = none ∧ (t.seat i).confirmGeneration = none
               | .releasing, .unlocked =>
                 s.SeatChanged i .isOpen t ∧ (t.seat i).bar = 0 ∧ (t.seat i).solenoid = .off
                 ∧ (t.seat i).elapsed = none
               | _, _ => (t.seat i).state = (s.seat i).state ∧ (t.seat i).changes = (s.seat i).changes
                   ∧ (∀ j, j ≠ i → t.seat j = s.seat j) ∧ SameBut [.seats] s t)
           | _, _ => t = s)
  ∧ (∀ (i : Fin 8) (s : State), s.inReset = false →
       (∃ t, exec (.occupancyChange i) s = .next t
         ∧ if s.fitted i = true ∧ (s.seat i).occupancyDue = true then
             (t.seat i).occupied = (!(s.seat i).occupied) ∧ (t.seat i).occupancyCount = 0
             ∧ (t.seat i).state = (if (s.seat i).state = .confirmed then .locked else (s.seat i).state)
             ∧ ((s.seat i).state = .confirmed →
                 (t.seat i).confirmBar = none ∧ (t.seat i).confirmGeneration = none)
             ∧ (t.seat i).changes = ((s.seat i).changes + 1) % 256
             ∧ (∀ j, j ≠ i → t.seat j = s.seat j)
             ∧ (∀ p, (t.ports.get p).events &&& Event.seatChange.flag ≠ 0)
             ∧ (if (s.seat i).state = .confirmed ∧ s.permit.state ≠ .noPermit then
                 t.permit.state = .noPermit ∧ t.permit.lastLoss = .seatChanged
               else t.permit = s.permit)
             ∧ (if (s.tt.phase = .pre ∨ s.tt.phase = .homing) ∧ s.tt.run.any (·.kind = .home) = true
                   ∧ s.permit.state ≠ .granted ∧ (s.seat i).occupied = false then
                 t.tt = { s.tt with
                   phase := .idle, run := none, timer := none, lastHome := some .permit }
                 ∧ ∀ p, (t.ports.get p).events &&& Event.homeFailed.flag ≠ 0
                else (s.seat i).state = .confirmed ∧ s.permit.state ≠ .noPermit ∨ t.tt = s.tt)
           else t = s)
       ∧ (∃ t, exec (.pullInEnd i) s = .next t ∧ SameBut [.seats] s t
         ∧ (∀ j, j ≠ i → t.seat j = s.seat j)
         ∧ t.seat i = (if (s.seat i).state = .releasing ∧ (s.seat i).solenoid = .pullIn
               ∧ (s.seat i).elapsed.any ((s.seat i).pullInTime ≤ ·) = true then
             { s.seat i with solenoid := .hold } else s.seat i))
       ∧ ∃ t, exec (.releaseTimeout i) s = .next t
         ∧ if (s.seat i).state = .releasing ∧ (s.seat i).elapsed.any ((s.seat i).timeout ≤ ·) = true then
             s.SeatChanged i .fault t ∧ (t.seat i).cause = some .releaseTimeout
             ∧ (t.seat i).solenoid = .off ∧ (t.seat i).elapsed = none
           else t = s)

/-- A motion tick with no end due before it (log 4, 5) samples the lock pair and the occupancy
switch of every fitted seat into its filters and counts the release elapsed (R95 to R97, R108); a
seat NOT_FITTED is not sampled (R94). A motion tick whose close leaves the permit as it is counts
the concur or the consent window down by one and gives CONSENT_LOW once in a period, when less than
a quarter of it remains (R121, R122, R124). A motion tick in the Sound Unit, after its close: voices
pause and resume by the phase (R178), gains approach their targets and a fade at gain 0 becomes due
to end (R176, log 4, 29), the duck ceiling approaches the duck level while voice 5 plays and 255
otherwise (R182), and the zone levels approach theirs (R183). -/
def Obligations.TickMovesTheRest : Prop :=
  (∀ (pins : Pins) (s : State), s.inReset = false → s.settleMotion = s →
     ∀ i : Fin 8, ∀ r : PairReading, r = (match pins.lka.getLsbD i, pins.lkb.getLsbD i with
       | true, false => .locked | false, true => .unlocked | _, _ => .disagreement) →
     ∀ x : Seat, x = s.seat i →
     ∃ t, exec (.motionTick pins .asSteps) s = .next t
       ∧ if x.state = .notFitted then t.seat i = x
       else
         t.seat i = { t.seat i with
           state := x.state, occupied := x.occupied, bar := x.bar, filtered := x.filtered,
           changes := x.changes, solenoid := x.solenoid, cause := x.cause,
           confirmBar := x.confirmBar, confirmGeneration := x.confirmGeneration,
           lastResult := x.lastResult, pullInTime := x.pullInTime, holdLevel := x.holdLevel,
           timeout := x.timeout }
         ∧ (t.seat i).candidate = (if r = x.filtered then none else some r)
         ∧ (t.seat i).pairCount = (if r = x.filtered then 0
             else if x.candidate = some r then min 255 (x.pairCount + 1) else 1)
         ∧ ((t.seat i).pairDue = true ↔ r ≠ x.filtered
             ∧ s.settings.pairFilterTime ≤ (t.seat i).pairCount)
         ∧ (t.seat i).occupancyCount = (if pins.occupancy.getLsbD i = x.occupied then 0
             else min 255 (x.occupancyCount + 1))
         ∧ ((t.seat i).occupancyDue = true ↔ pins.occupancy.getLsbD i ≠ x.occupied
             ∧ s.settings.occupancyFilterTime ≤ (t.seat i).occupancyCount)
         ∧ (t.seat i).elapsed = (if x.state = .releasing then x.elapsed.map (· + 1) else x.elapsed))
  ∧ (∀ (pins : Pins) (s : State), s.inReset = false → s.settleMotion = s →
       ∀ u : State, u = (((s.withPins pins).onDrive (·.tickEnded)).timersFall).tickClose →
       ∃ t, exec (.motionTick pins .asSteps) s = .next t
         ∧ t.permit.state = u.permit.state ∧ t.permit.generation = u.permit.generation
         ∧ t.permit.lastLoss = u.permit.lastLoss ∧ t.permit.periodWindow = u.permit.periodWindow
         ∧ t.permit.concurRemaining = (if u.permit.state = .awaitingConcur then
             u.permit.concurRemaining.map (· - 1) else u.permit.concurRemaining)
         ∧ t.permit.consentRemaining = (if u.permit.state = .granted then
             u.permit.consentRemaining.map (· - 1) else u.permit.consentRemaining)
         ∧ match u.permit.state, t.permit.consentRemaining, u.permit.periodWindow, u.permit.lowGiven with
           | .granted, some n, some w, some false =>
             t.permit.lowGiven = some (decide (4 * n < w))
             ∧ (4 * n < w → ∀ q, (t.ports.get q).events &&& Event.consentLow.flag ≠ 0)
           | _, _, _, _ => t.permit.lowGiven = u.permit.lowGiven)
  ∧ (∀ (pins : Pins) (s : State), s.inReset = false → s.settleMotion = s →
       ∀ u : State, u = (((s.withPins pins).onDrive (·.tickEnded)).timersFall).tickClose →
       ∀ toward : Nat → Nat → Nat → Nat, toward = (fun step target x =>
         if x ≤ target then x + min step (target - x) else x - min step (x - target)) →
       ∃ t, exec (.motionTick pins .asSteps) s = .next t
         ∧ (∀ v : Fin 6,
             let x := u.voice v
             let pauses := decide (u.motion.phase = .held ∧ x.state = .playing ∧ x.hold = .pauseOnHold)
             let gain := if x.state = .idle then x.gain else toward x.step x.target x.gain
             t.voice v = { x with
               state := if pauses then .paused
                 else if u.motion.phase ≠ .held ∧ x.state = .paused then .playing else x.state,
               starved := x.starved && !pauses, gain := gain,
               fadeDue := if x.state = .idle then x.fadeDue
                 else decide (x.state = .fadingOut ∧ gain = 0) })
         ∧ t.sound.duck = (if (t.voice 5).state = .playing then
             toward u.settings.duckStep u.settings.duckLevel u.sound.duck
             else toward u.settings.duckStep 255 u.sound.duck)
         ∧ (∀ z : Fin 4, t.sound.zone[z] = { u.sound.zone[z] with
             current := toward u.sound.zone[z].step u.sound.zone[z].target u.sound.zone[z].current })
         ∧ t.sound = { u.sound with
             voice := t.sound.voice, duck := t.sound.duck, zone := t.sound.zone,
             heldSeen := decide (u.motion.phase = .held) })

/-- Release Bars (R106, R107): outside motion IDLE with turntable TT_IDLE it is refused STATE;
taken, the servo-hold latch and drive enable are off (R54), the permit is lost with cause RELEASE,
and each masked seat in LOCKED or CONFIRMED enters RELEASING with its solenoid pulling in and the
release settings as they stand (log 13), a seat change (R104); other seats stay. Clear Seat Fault
puts each masked seat in FAULT back to OPEN or LOCKED by its filtered reading and leaves a seat
whose pair disagrees, and every other seat, as it is (R111); a seat cleared is a seat change (R104).
-/
def Obligations.SeatCommands : Prop :=
  (∀ (p : Port) (mask : BitVec 8) (s : State), s.inReset = false →
     ∃ t, exec (.releaseBars p mask) s = .next t
       ∧ if p ≠ .a then RefusedOn p .rights 0x38 s t
         else if s.motion.phase ≠ .idle ∨ s.tt.phase ≠ .idle then RefusedOn p .state 0x38 s t
         else
           t.motion = { s.motion with servoLatch := false } ∧ t.drive.enable = false
           ∧ (if s.permit.state = .noPermit then t.permit = s.permit
              else t.permit.state = .noPermit ∧ t.permit.lastLoss = .release
                ∧ t.permit.generation = s.permit.generation)
           ∧ (∀ i : Fin 8, t.seat i =
               if mask.getLsbD i ∧ ((s.seat i).state = .locked ∨ (s.seat i).state = .confirmed) then
                 { s.seat i with
                   state := .releasing, confirmBar := none, confirmGeneration := none,
                   elapsed := some 0, solenoid := .pullIn, pullInTime := s.settings.pullInTime,
                   holdLevel := s.settings.holdLevel, timeout := s.settings.releaseTimeout,
                   changes := ((s.seat i).changes + 1) % 256 }
               else s.seat i)
           ∧ Told ((if s.permit.state = .noPermit then [] else [.permitLost])
               ++ (if ∃ i : Fin 8, mask.getLsbD i
                     ∧ ((s.seat i).state = .locked ∨ (s.seat i).state = .confirmed) then
                   [.seatChange] else [])) [] s t
           ∧ SameBut [.framing, .records, .motion, .drive, .seats, .permit, .model] s t)
  ∧ (∀ (p : Port) (mask : BitVec 8) (s : State), s.inReset = false →
       ∃ t, exec (.clearSeatFault p mask) s = .next t
         ∧ if p ≠ .b then RefusedOn p .rights 0x39 s t
           else
             (∀ i : Fin 8, t.seat i =
               if mask.getLsbD i ∧ (s.seat i).state = .fault ∧ (s.seat i).filtered ≠ .disagreement then
                 { s.seat i with
                   state := if (s.seat i).filtered = .locked then .locked else .isOpen,
                   cause := none, changes := ((s.seat i).changes + 1) % 256 }
               else s.seat i)
             ∧ Told (if ∃ i : Fin 8, mask.getLsbD i ∧ (s.seat i).state = .fault
                   ∧ (s.seat i).filtered ≠ .disagreement then [.seatChange] else []) [] s t
             ∧ SameBut [.framing, .records, .seats] s t)

/-! ## Permit Unit -/

/-- Begin Check in motion IDLE and TT_IDLE (R116 to R119): a held permit is lost, the generation
rises, skipping 0, every fitted seat is judged on state, closure and faults, and with every seat
PASS the permit awaits concur, each passed seat CONFIRMED; otherwise the check has failed. A seat
whose state changes is a seat change (R104), and CHECK_DONE is latched. -/
def Obligations.BeginCheck : Prop :=
  ∀ (p : Port) (s : State), s.inReset = false →
    ∀ g : Nat, g = (if s.permit.generation = 65535 then 1 else s.permit.generation + 1) →
    ∀ res : Fin 8 → Option CheckResult, res = (fun i =>
      let x := s.seat i
      match x.state with
      | .notFitted => none
      | .fault => some .fault
      | .isOpen | .releasing => some .notLocked
      | .locked | .confirmed =>
        if x.bar < (if x.occupied then s.settings.occupiedMinimum else s.settings.emptyMinimum) then
          some .short else some .pass) →
    ∃ t, exec (.beginCheck p) s = .next t
      ∧ if p ≠ .a then RefusedOn p .rights 0x40 s t
        else if s.motion.phase ≠ .idle ∨ s.tt.phase ≠ .idle then RefusedOn p .state 0x40 s t
        else
          t.permit.generation = g
          ∧ t.permit.fittedMask = BitVec.ofNat 8 (2 ^ s.settings.fittedSeatCount - 1)
          ∧ (∀ i : Fin 8, t.permit.results[i] = res i
              ∧ t.permit.passMask.getLsbD i = decide (res i = some .pass))
          ∧ (∀ i : Fin 8, (t.seat i).lastResult = (match res i with
                | none => (s.seat i).lastResult
                | r => r)
              ∧ (t.seat i).state = (if res i = some .pass then .confirmed
                  else if (s.seat i).state = .confirmed then .locked else (s.seat i).state)
              ∧ (t.seat i).bar = (s.seat i).bar ∧ (t.seat i).occupied = (s.seat i).occupied
              ∧ (res i = some .pass → (t.seat i).confirmBar = some (s.seat i).bar
                  ∧ (t.seat i).confirmGeneration = some g))
          ∧ (if ∀ i, res i = none ∨ res i = some .pass then
              t.permit.state = .awaitingConcur
              ∧ t.permit.concurRemaining = some s.settings.concurWindow
              ∧ t.permit.lastLoss = (if s.permit.state = .noPermit then s.permit.lastLoss
                  else .newCheck)
            else t.permit.state = .noPermit ∧ t.permit.lastLoss = .checkFailed)
          ∧ Told ((if s.permit.state = .noPermit then [] else [.permitLost])
              ++ (if ∃ i, (t.seat i).state ≠ (s.seat i).state then [.seatChange] else [])
              ++ [.checkDone]) [] s t
          ∧ SameBut [.framing, .records, .seats, .permit] s t

/-- Concur by the lines of R120: STALE outside AWAITING_CONCUR or for another generation; a mask
that is not the fitted mask is refused RANGE and ends the permit; otherwise the permit is GRANTED
with the consent window running. Renew Consent loads the consent window again while the permit is
GRANTED with that generation, and is refused STALE otherwise (R123). -/
def Obligations.ConcurAndRenewConsent : Prop :=
  (∀ (p : Port) (g : BitVec 16) (mask : BitVec 8) (s : State), s.inReset = false →
     ∃ t, exec (.concur p g mask) s = .next t
       ∧ if p ≠ .b then RefusedOn p .rights 0x41 s t
         else if s.permit.state ≠ .awaitingConcur ∨ g.toNat ≠ s.permit.generation then
           RefusedOn p .stale 0x41 s t
         else if mask ≠ s.permit.fittedMask then
           t.permit = { s.permit with
             state := .noPermit, concurRemaining := none, consentRemaining := none,
             periodWindow := none, lowGiven := none, lastLoss := .concurMismatch }
           ∧ (t.ports.get .b).lastRefusal = some ⟨.range, 0x41⟩
           ∧ (t.ports.get .b).events &&& Event.refused.flag ≠ 0
           ∧ (∀ q, (t.ports.get q).events &&& Event.permitLost.flag ≠ 0)
           ∧ t.seats.seat = s.seats.seat ∧ t.route = s.route ∧ t.settings = s.settings
         else
           t.permit = { s.permit with
             state := .granted, concurRemaining := none,
             consentRemaining := some s.settings.consentWindow,
             periodWindow := some s.settings.consentWindow, lowGiven := some false }
           ∧ Told [.permitGranted] [] s t ∧ SameBut [.framing, .records, .permit] s t)
  ∧ (∀ (p : Port) (g : BitVec 16) (s : State), s.inReset = false →
       ∃ t, exec (.renewConsent p g) s = .next t
         ∧ if p ≠ .b then RefusedOn p .rights 0x42 s t
           else if s.permit.state ≠ .granted ∨ g.toNat ≠ s.permit.generation then
             RefusedOn p .stale 0x42 s t
           else
             t.permit = { s.permit with
               consentRemaining := some s.settings.consentWindow,
               periodWindow := some s.settings.consentWindow, lowGiven := some false }
             ∧ SameBut [.framing, .permit] s t)

/-- Revoke Consent, refused RIGHTS from ports A and C, the end of the concur window and the end of
the consent window lose the permit (R115, R121, R122, R125): NO_PERMIT with the cause, PERMIT_LOST,
a soft stop with a show stop from the moving phases, PRE and HELD, a soft stop from DWELL (R72), a
turn in TT_TURNING begins to stop (R90), its retreat at rest where its effective step is 0 (log 16),
that step being the last tick's, or 0 before the first (log 17). A turn in TT_PRE ends STOPPED with
TURN_DONE, and a homing run in TT_PRE or TT_HOMING ends with outcome PERMIT and HOME_FAILED unless
every fitted seat is unoccupied; its homed flag stays no (RunsShaped). Without a permit, or undue
(log 3), nothing happens. -/
def Obligations.PermitLosses : Prop :=
  ∀ s : State, s.inReset = false →
    (∀ p : Port, p ≠ .b → ∃ t, exec (.revokeConsent p) s = .next t ∧ RefusedOn p .rights 0x43 s t)
    ∧ ∀ x ∈ ([(.revokeConsent .b, .revoked, decide (s.permit.state ≠ .noPermit)),
        (.concurTimeout, .concurTimeout,
          s.permit.state = .awaitingConcur && s.permit.concurRemaining = some 0),
        (.consentExpired, .consentExpired,
          s.permit.state = .granted && s.permit.consentRemaining = some 0)] :
        List (Instr × LossCause × Bool)),
      ∃ t, exec x.1 s = .next t
        ∧ if x.2.2 = false then SameBut [.framing] s t
          else
            t.permit = { s.permit with
              state := .noPermit, concurRemaining := none, consentRemaining := none,
              periodWindow := none, lowGiven := none, lastLoss := x.2.1 }
            ∧ (∀ q, (t.ports.get q).events &&& Event.permitLost.flag ≠ 0)
            ∧ (match s.motion.phase with
              | .accel | .cruise | .decel | .holding =>
                t.motion.phase = .stopping ∧ t.motion.pendingStop = some .permitLost
                ∧ t.motion.queue = [] ∧ t.cues.engine ≠ .armed ∧ s.ShowStopped .permitLost t
              | .pre | .held =>
                s.InPost t ∧ t.motion.lastStop = some ⟨.soft, .permitLost⟩
                ∧ t.motion.queue = [] ∧ t.cues.engine ≠ .armed ∧ s.ShowStopped .permitLost t
              | .dwell =>
                s.InPost t ∧ t.motion.lastStop = some ⟨.soft, .permitLost⟩
                ∧ t.motion.queue = [] ∧ t.cues = s.cues ∧ t.sound = s.sound ∧ t.effects = s.effects
              | _ => t.motion = s.motion ∧ t.cues = s.cues ∧ t.sound = s.sound
                  ∧ t.effects = s.effects)
            ∧ (match s.tt.phase, s.tt.run with
              | .turning, some r =>
                t.tt = { s.tt with
                  phase := .stopping,
                  run := some { r with
                    retreat := if r.kEff.getD r.k = 0 then some ⟨0, 0, true, false⟩
                      else some ⟨r.kEff.getD r.k - 1, 0, false, false⟩ } }
              | .pre, some r | .homing, some r =>
                (match s.tt.phase, r.kind with
                | .pre, .turn target mode =>
                  t.tt = { s.tt with
                    phase := .idle, run := none, timer := none,
                    lastTurn := some ⟨target, mode, .stopped⟩ }
                  ∧ (∀ q, (t.ports.get q).events &&& Event.turnDone.flag ≠ 0)
                | _, _ =>
                  if ∀ i, (s.seat i).state = .notFitted ∨ (s.seat i).occupied = false then
                    t.tt = s.tt
                  else
                    t.tt = { s.tt with
                      phase := .idle, run := none, timer := none, lastHome := some .permit }
                    ∧ (∀ q, (t.ports.get q).events &&& Event.homeFailed.flag ≠ 0))
              | _, _ => t.tt = s.tt)
            ∧ SameBut [.framing, .records, .motion, .drive, .turntable, .seats, .permit, .cues,
                .effects, .sound, .model] s t

/-! ## Cue Engine -/

/-- Load Cue by the tests of R133 in their order puts a cue, unfired, into its slot; an action
record is stored by the bytes its kind uses (R134). Delete Cue empties a slot (R135); Arm Cues and
Disarm Cues set the engine state (R137). Nothing else of the engine changes. -/
def Obligations.CueTableCommands : Prop :=
  (∀ r : Vector Byte 10,
    match actionOf r with
    | none => 6 < r[0].toNat
    | some a => r[0].toNat ≤ 6
        ∧ a.bytes = r.toList.take ([9, 3, 4, 4, 10, 4, 3].getD r[0].toNat 0)
          ++ List.replicate (10 - [9, 3, 4, 4, 10, 4, 3].getD r[0].toNat 0) 0)
  ∧ (∀ (p : Port) (b : CueBytes) (s : State), s.inReset = false →
    ∃ t, exec (.loadCue p b) s = .next t
      ∧ if p ≠ .c then RefusedOn p .rights 0x50 s t
        else if b.count = 0 ∨ 4 < b.count.toNat ∨ 2 < b.direction.toNat
            ∨ (b.latestPresent ≠ 0 ∧ (b.direction = 1 ∨ b.latest.toInt < b.trigger.toInt))
            ∨ (b.actions.any fun r => (actionOf r).isNone) then
          RefusedOn p .range 0x50 s t
        else if h : b.slot.toNat < 64 then
          t.slot ⟨b.slot.toNat, h⟩ = some
            { trigger := b.trigger.toInt,
              direction := if b.direction = 0 then .fwd else if b.direction = 1 then .rev else .any,
              latest := if b.latestPresent = 0 then none else some b.latest.toInt,
              actions := b.actions.filterMap actionOf, fired := false }
          ∧ (∀ j : Fin 64, j.val ≠ b.slot.toNat → t.slot j = s.slot j)
          ∧ t.cues = { s.cues with slots := t.cues.slots } ∧ SameBut [.framing, .cues] s t
        else RefusedOn p .range 0x50 s t)
  ∧ ∀ (p : Port) (slot : Byte) (s : State), s.inReset = false →
    (∃ t, exec (.deleteCue p slot) s = .next t
      ∧ if p ≠ .c then RefusedOn p .rights 0x51 s t
        else if 63 < slot.toNat then RefusedOn p .range 0x51 s t
        else
          (∀ j : Fin 64, t.slot j = if j.val = slot.toNat then none else s.slot j)
          ∧ t.cues = { s.cues with slots := t.cues.slots } ∧ SameBut [.framing, .cues] s t)
    ∧ (∃ t, exec (.armCues p) s = .next t
      ∧ if p ≠ .c then RefusedOn p .rights 0x52 s t
        else t.cues = { s.cues with engine := .armed } ∧ SameBut [.framing, .cues] s t)
    ∧ ∃ t, exec (.disarmCues p) s = .next t
      ∧ if p ≠ .c then RefusedOn p .rights 0x53 s t
        else t.cues = { s.cues with engine := .disarmed } ∧ SameBut [.framing, .cues] s t

/-- Fire Cue by the tests of R146 marks the cue fired, logs FIRED with the route position, latches
CUE_FIRED, and dispatches the actions in list order, each on what those before it left (R147, R149,
R150). An action that a port command names has the effect of that command of port C, without its
test of rights and with no refusal on a port; SCENE_HOLD adds SCENE to the hold reason set and loads
or replaces the SCENE timer (R63, R64), where a retreat begun at effective step 0 is at rest with h
0 (log 16). A refused action, a SCENE_HOLD of duration 0 and an EFFECT with an operation other than
START and ARM (R157) among them, is logged DROPPED with its index and latches CUE_ACTION_DROPPED
(R148). -/
def Obligations.FireCue : Prop :=
  (∀ (p : Port) (slot : Byte) (s : State), s.inReset = false →
    ∃ t, exec (.fireCue p slot) s = .next t
      ∧ if p ≠ .c then RefusedOn p .rights 0x54 s t
        else if h : slot.toNat < 64 then
          (match s.slot ⟨slot.toNat, h⟩ with
          | none => RefusedOn p .range 0x54 s t
          | some c =>
            if c.fired then RefusedOn p .state 0x54 s t
            else
              t.slot ⟨slot.toNat, h⟩ = some { c with fired := true }
              ∧ (∀ j : Fin 64, j.val ≠ slot.toNat → t.slot j = s.slot j)
              ∧ (∀ q, (t.ports.get q).events &&& Event.cueFired.flag ≠ 0
                  ∧ (t.ports.get q).lastRefusal = (s.ports.get q).lastRefusal)
              ∧ t.route.position = s.route.position
              ∧ SameBut [.framing]
                (c.actions.zipIdx.foldl
                  (fun w x => w.dispatch ⟨slot.toNat, h⟩ x.2 x.1)
                  (((s.setSlot ⟨slot.toNat, h⟩ (some { c with fired := true })).onCues fun e =>
                    { e with
                      log := (if 16 ≤ e.log.length then e.log.drop 1 else e.log)
                        ++ [⟨slot.toNat, .fired, none, s.route.position⟩],
                      outcomes := (e.outcomes + 1) % 65536 }).latch .cueFired)) t)
        else RefusedOn p .range 0x54 s t)
  ∧ ∀ (i : Fin 64) (index : Nat) (a : CueAction) (u : State), u.inReset = false →
    ∀ w, w = u.dispatch i index a → Block.framing.same u w
      ∧ match a with
        | .sceneHold d =>
          if d = 0 then u.ActionDropped i index w
          else
            ∀ v, v = u.onMotion (fun m => { m with
              holds := { m.holds with scene := true }, sceneTimer := some d.toNat }) →
            if u.motion.holds = ⟨false, false, false⟩ then v.HoldBegun w else w = v
        | a =>
          match a.command with
          | none => u.ActionDropped i index w
          | some c =>
            ∃ v, exec c (u.onPort .c fun x => { x with lastRefusal := none }) = .next v
              ∧ if (v.ports.get .c).lastRefusal = none then
                  SameBut [.framing, .records] v w
                  ∧ ∀ q, (w.ports.get q).record = ((v.ports.get q).events, (v.ports.get q).attn,
                      (u.ports.get q).lastRefusal)
                else u.ActionDropped i index w

/-- The cues that a sample or a jump takes are the unfired ones of its direction whose trigger it
crosses, the end included and the start not, in the order in which they are crossed, equal triggers
by slot (R139, R140, R143). ARMED, a sample fires each in that order (R141), and a forward jump
takes each in that order, missing one whose latest it passes and firing the rest (R143). SUPPRESSED
passes each as MISSED (R145), DISARMED takes none, and a backward jump takes none (R144). A cue that
fires sets its flag, logs FIRED, latches CUE_FIRED and dispatches its actions in list order, all
before the next cue (R147, R149, R150; an action's effect is that of FireCue), whatever a show stop
of its own does (R138); a missed one sets its flag, logs MISSED and latches CUE_MISSED. -/
def Obligations.CuesOfASampleOrJump : Prop :=
  (∀ (s : State) (before after : Int) (due : List (Fin 64)), due = s.cuesDue before after →
    (∀ i : Fin 64, i ∈ due ↔ ∃ c, s.slot i = some c ∧ c.fired = false
      ∧ ((before < after ∧ c.direction ≠ .rev ∧ before < c.trigger ∧ c.trigger ≤ after)
        ∨ (after < before ∧ c.direction ≠ .fwd ∧ after ≤ c.trigger ∧ c.trigger < before)))
    ∧ (∀ c d : Cue, ∀ i j : Fin 64, s.slot i = some c → s.slot j = some d → [i, j].Sublist due →
        (before < after → c.trigger ≤ d.trigger) ∧ (after < before → d.trigger ≤ c.trigger)
        ∧ (c.trigger = d.trigger → i < j))
    ∧ due.Nodup
    ∧ (∀ i : Fin 64,
        (s.sample before after).slot i
          = if i ∈ due ∧ s.cues.engine ≠ .disarmed then
              (s.slot i).map fun c => { c with fired := true }
            else s.slot i)
    ∧ (s.cues.engine = .disarmed →
        s.sample before after = s ∧ s.jump before after = s)
    ∧ (s.cues.engine = .armed →
        s.sample before after = due.foldl (fun w i => w.fire i) s
        ∧ (before < after → s.jump before after = due.foldl (fun w i =>
            match (w.slot i).bind (·.latest) with
            | some l => if l < after then w.miss i else w.fire i
            | none => w.fire i) s))
    ∧ (s.cues.engine = .suppressed →
        s.sample before after = due.foldl (fun w i => w.miss i) s
        ∧ (before < after → s.jump before after = s.sample before after)
        ∧ (s.sample before after).cues.log.drop
            ((s.sample before after).cues.log.length - min 16 due.length)
          = (due.map fun i => (⟨i, .missed, none, s.route.position⟩ : LogEntry)).drop
              (due.length - 16)
        ∧ (s.sample before after).cues.outcomes % 65536
          = (s.cues.outcomes + due.length) % 65536
        ∧ SameBut [.records, .cues] s (s.sample before after))
    ∧ (after ≤ before → s.jump before after = s)
    ∧ (s.cues.engine = .armed → before < after →
        (∀ i : Fin 64, (s.jump before after).slot i
          = if i ∈ due then (s.slot i).map fun c => { c with fired := true } else s.slot i)
        ∧ ((∀ i ∈ due, ∃ c, s.slot i = some c ∧ c.latest.any (· < after) = true) →
            SameBut [.records, .cues] s (s.jump before after)
            ∧ (due ≠ [] → ∀ q,
              ((s.jump before after).ports.get q).events &&& Event.cueMissed.flag ≠ 0))))
  ∧ ∀ (i : Fin 64) (c : Cue) (w : State), w.slot i = some c →
    w.CueMarked i c .missed .cueMissed (w.miss i)
    ∧ ∃ v, w.CueMarked i c .fired .cueFired v
      ∧ w.fire i = c.actions.zipIdx.foldl (fun u x => u.dispatch i x.2 x.1) v

/-! ## Effect Timer Bank -/

/-- Set Effect by the tests of R157 in their order. START stops an active exclusive partner and puts
the channel into the state of its mode with the first interval running (R155, R158); mode OFF and
the operation OFF turn an active channel off without a completion; ARM stores the pattern, mode OFF
none. A LOCKED_OUT channel is not started. -/
def Obligations.SetEffect : Prop :=
  ∀ (p : Port) (ch : Byte) (b : PatternBytes) (s : State), s.inReset = false →
    ∀ bad : Bool, bad = decide (11 < ch.toNat ∨ 5 < b.mode.toNat
      ∨ ((b.mode = 1 ∨ b.mode = 2 ∨ b.mode = 3) ∧ b.onTime = 0)
      ∨ ((b.mode = 2 ∨ b.mode = 3) ∧ b.offTime = 0) ∨ (b.mode = 2 ∧ b.countOrDuty = 0)
      ∨ (11 < b.link.toNat ∧ b.link ≠ 255)) →
    ∀ pat : Pattern, pat =
      { mode := [PatternMode.steady, .pulse, .burst, .cycle, .dim].getD b.mode.toNat .off,
        onTime := b.onTime.toNat, offTime := b.offTime.toNat,
        countOrDuty := b.countOrDuty.toNat,
        link := if b.link = 255 then none else some b.link.toNat } →
    ∀ i : Fin 12, i.val = ch.toNat % 12 →
    (∃ t, exec (.setEffectStart p ch b) s = .next t
      ∧ if p ≠ .c then RefusedOn p .rights 0x60 s t
        else if bad then RefusedOn p .range 0x60 s t
        else if b.mode = 5 then
          SameBut [.framing, .effects] s t
          ∧ (if (s.channel i).state.active then s.ChannelBecomes i (s.channel i).turnedOff t
             else t.effects = s.effects)
        else if (s.channel i).state = .lockedOut then RefusedOn p .state 0x60 s t
        else
          SameBut [.framing, .effects] s t
          ∧ t.channel i = { s.channel i with
              state := [ChannelState.steadyOn, .pulseOn, .burstOn, .cycleOn].getD b.mode.toNat .dim,
              running := some pat,
              interval := if b.mode = 0 ∨ b.mode = 4 then none else some b.onTime.toNat,
              bursts := if b.mode = 2 then some b.countOrDuty.toNat else none }
          ∧ (∀ j : Fin 12, j ≠ i → t.channel j =
              if s.exclusive (pairOf i) = true ∧ pairOf j = pairOf i
                  ∧ (s.channel j).state.active = true then
                (s.channel j).turnedOff
              else s.channel j)
          ∧ t.effects = { s.effects with channel := t.effects.channel })
    ∧ (∃ t, exec (.setEffectArm p ch b) s = .next t
      ∧ if p ≠ .c then RefusedOn p .rights 0x60 s t
        else if bad then RefusedOn p .range 0x60 s t
        else
          SameBut [.framing, .effects] s t
          ∧ s.ChannelBecomes i
              { s.channel i with armed := if b.mode = 5 then none else some pat } t)
    ∧ ∃ t, exec (.setEffectOff p ch b) s = .next t
      ∧ if p ≠ .c then RefusedOn p .rights 0x60 s t
        else if 11 < ch.toNat then RefusedOn p .range 0x60 s t
        else
          SameBut [.framing, .effects] s t
          ∧ (if (s.channel i).state.active then s.ChannelBecomes i (s.channel i).turnedOff t
             else t.effects = s.effects)

/-- An interval that has run out moves its channel on by the table of R155; the last one completes
the pattern: the channel is OFF, its completion count rises, EFFECT_DONE is latched, and the armed
pattern of the linked channel, which may be the completing one, starts as R158 has it: an active
exclusive partner is turned off, the channel enters the state of the mode with its interval loaded
and a BURST's count as the bursts left, and it keeps its armed pattern. A link to a channel that is
LOCKED_OUT or has no armed pattern starts nothing (R159). Every other channel, the conflict counts
and the carrier stay. An end not due has no effect (log 3). -/
def Obligations.EffectIntervalEnds : Prop :=
  ∀ (i : Fin 12) (s : State), s.inReset = false →
    ∃ t, exec (.effectIntervalEnd i) s = .next t
      ∧ match (s.channel i).interval, (s.channel i).running with
        | some 0, some pat =>
          (match (s.channel i).state, decide (1 < (s.channel i).bursts.getD 1) with
          | .burstOn, true =>
            s.ChannelBecomes i
              { s.channel i with state := .burstOff, interval := some pat.offTime,
                                 bursts := (s.channel i).bursts.map (· - 1) } t
            ∧ SameBut [.effects] s t
          | .burstOff, _ =>
            s.ChannelBecomes i
              { s.channel i with state := .burstOn, interval := some pat.onTime } t
            ∧ SameBut [.effects] s t
          | .cycleOn, _ =>
            s.ChannelBecomes i
              { s.channel i with state := .cycleOff, interval := some pat.offTime } t
            ∧ SameBut [.effects] s t
          | .cycleOff, _ =>
            s.ChannelBecomes i
              { s.channel i with state := .cycleOn, interval := some pat.onTime } t
            ∧ SameBut [.effects] s t
          | .pulseOn, _ | .burstOn, false =>
            Told [.effectDone] [] s t ∧ SameBut [.records, .effects] s t
            ∧ t.effects = { s.effects with channel := t.effects.channel }
            ∧ ∀ z : Fin 12 → Channel,
              z = (fun j => if j = i then { (s.channel i).turnedOff with
                  completions := ((s.channel i).completions + 1) % 256 } else s.channel j) →
              ((∀ l : Fin 12, pat.link = some l.val → (z l).armed = none ∨ (z l).state = .lockedOut) →
                ∀ j, t.channel j = z j)
              ∧ ∀ l : Fin 12, pat.link = some l.val → ∀ next, (z l).armed = some next →
                (z l).state ≠ .lockedOut →
                t.channel l = (if next.mode = .off then (z l).turnedOff
                  else { z l with
                    state := match next.mode with
                      | .steady => .steadyOn | .pulse => .pulseOn | .burst => .burstOn
                      | .cycle => .cycleOn | .dim => .dim | .off => .off,
                    running := some next,
                    interval := if next.mode = .steady ∨ next.mode = .dim then none
                      else some next.onTime,
                    bursts := if next.mode = .burst then some next.countOrDuty else none })
                ∧ ∀ j, j ≠ l → t.channel j =
                  if s.exclusive (pairOf l) = true ∧ pairOf j = pairOf l
                      ∧ (z j).state.active = true then
                    (z j).turnedOff
                  else z j
          | _, _ => t = s)
        | _, _ => t = s

/-- One millisecond of the effect time base, no end being due before it (R155, R156, R161; log 4):
every interval timer falls by one, the dim carrier moves on, and each exclusive pair that is not
locked out counts a sample with both readbacks on, or starts again at 0. By the model's choice one
row does so for all channels and pairs and moves the carrier (log 11), an interval begun between two
milliseconds included (log 40). A conflict count of 5 locks the pair out: both channels LOCKED_OUT
without completion, the count 0 and EFFECT_CONFLICT latched (R161); Clear Effect Lockout returns a
pair that is locked out to OFF (R162); a write of the exclusive pair mask stops the upper channel of
a pair newly exclusive with both active and clears the count of a pair no longer exclusive (R160),
acting on the flags that change (log 33). A lockout that is not due has no effect (log 3). -/
def Obligations.EffectMillisecondAndConflicts : Prop :=
  (∀ (pins : Pins) (s : State), s.inReset = false → s.settleEffects = s →
     ∃ t, exec (.effectTimeBaseTick pins .asSteps) s = .next t ∧ t.pins = pins
       ∧ exec (.effectTimeBaseTick pins .inTick) s = .next t.settleEffects
       ∧ t.effects.carrierSecond = (!s.effects.carrierSecond)
       ∧ (∀ i : Fin 12, t.channel i =
           { s.channel i with interval := (s.channel i).interval.map (· - 1) })
       ∧ (∀ q : Fin 6, t.effects.conflicts[q] =
           if s.exclusive q = true ∧ ¬ ((s.channel (lowerOf q)).state = .lockedOut
               ∧ (s.channel (upperOf q)).state = .lockedOut) then
             if pins.readback.getLsbD (2 * q.val) && pins.readback.getLsbD (2 * q.val + 1) then
               s.effects.conflicts[q] + 1 else 0
           else s.effects.conflicts[q])
       ∧ SameBut [.effects, .lines] s t)
  ∧ ((∀ (q : Fin 6) (s : State), s.inReset = false →
       ∃ t, exec (.effectLockout q) s = .next t
         ∧ if s.effects.conflicts[q] < 5 then t = s
           else
             Told [.effectConflict] [] s t ∧ SameBut [.records, .effects] s t
             ∧ t.effects.conflicts = s.effects.conflicts.set q 0
             ∧ ∀ i : Fin 12, t.channel i = if pairOf i = q then
                 { s.channel i with state := .lockedOut, running := none, interval := none,
                                    bursts := none }
               else s.channel i)
     ∧ (∀ (p : Port) (pair : Byte) (s : State), s.inReset = false →
       ∃ t, exec (.clearEffectLockout p pair) s = .next t
         ∧ if p ≠ .c then RefusedOn p .rights 0x61 s t
           else if h : pair.toNat < 6 then
             SameBut [.framing, .effects] s t
             ∧ if ∀ i : Fin 12, (pairOf i).val = pair.toNat → (s.channel i).state = .lockedOut then
                 t.effects.conflicts = s.effects.conflicts.set pair.toNat 0
                 ∧ ∀ i : Fin 12, t.channel i = if (pairOf i).val = pair.toNat then
                     { s.channel i with state := .off } else s.channel i
               else t.effects = s.effects
           else RefusedOn p .range 0x61 s t)
     ∧ ∀ (v : BitVec 32) (s : State), s.inReset = false → v.toNat ≤ 63 →
       ∃ t, exec (.writeExclusivePairMask .c v) s = .next t
         ∧ t.settings = { s.settings with exclusivePairMask := BitVec.ofNat 6 v.toNat }
         ∧ SameBut [.framing, .settings, .effects] s t
         ∧ (∀ i : Fin 12, t.channel i =
             if i.val % 2 = 1 ∧ v.getLsbD (i.val / 2) = true ∧ s.exclusive (pairOf i) = false
                 ∧ (s.channel i).state.active = true
                 ∧ (s.channel (partnerOf i)).state.active = true then
               (s.channel i).turnedOff
             else s.channel i)
         ∧ ∀ q : Fin 6, t.effects.conflicts[q] =
             if s.exclusive q = true ∧ v.getLsbD q = false then 0 else s.effects.conflicts[q])

/-! ## Show stop and show reset -/

/-- A show stop takes an ARMED cue engine to SUPPRESSED (R137), turns the active safe-off channels
off without completion (R163), fades the playing voices of 0 to 4 by the fault fade step and ends
the paused ones (R186), and has the announcement clip of its cause played by voice 5 or records why
not (R187). A hard stop and a MOTION section reset of a moving vehicle, every first fault, a permit
lost in ACCEL, CRUISE, DECEL, HOLDING, PRE or HELD, and a position lost in ACCEL, CRUISE, DECEL or
HOLDING raise one, each with its cause, and a loss in another phase raises none (R78). A voice that
ends keeps the fields that R171 does not name (log 30). -/
def Obligations.ShowStop : Prop :=
  (∀ (cause : ShowCause) (s t : State), t = s.showStop cause →
    t.cues = { s.cues with
      engine := if s.cues.engine = .armed then .suppressed else s.cues.engine }
    ∧ t.effects = { s.effects with channel := t.effects.channel }
    ∧ (∀ i : Fin 12, t.channel i =
        if s.settings.safeOffMask.getLsbD i = true ∧ (s.channel i).state.active = true then
          (s.channel i).turnedOff else s.channel i)
    ∧ (∀ v : Fin 6, v ≠ 5 → t.voice v = match (s.voice v).state with
        | .playing => { s.voice v with
            target := 0, step := s.settings.faultFadeStep, state := .fadingOut,
            fade := some .showStop }
        | .fadingOut => { s.voice v with
            target := 0, step := max (s.voice v).step s.settings.faultFadeStep }
        | .paused => (s.voice v).atEnd .showStop
        | .idle => s.voice v)
    ∧ (∀ clip : Nat, clip = s.settings.announcementClips.toList.getD
          (match cause with
            | .motionFault => 0 | .permitLost => 1 | .positionLost => 2 | .hardStop => 3) 0 →
        if clip = 0 then
          t.sound.lastAnnouncement = some ⟨cause, .noClip⟩ ∧ t.voice 5 = s.voice 5
        else if s.sound.mount.isSome then
          t.sound.lastAnnouncement = some ⟨cause, .mounting⟩ ∧ t.voice 5 = s.voice 5
        else if ∀ c ∈ s.sound.clips, c.id ≠ clip then
          t.sound.lastAnnouncement = some ⟨cause, .notMounted⟩ ∧ t.voice 5 = s.voice 5
        else
          t.sound.lastAnnouncement = some ⟨cause, .played⟩
          ∧ t.voice 5 =
            { (if (s.voice 5).state = .idle then s.voice 5 else (s.voice 5).atEnd .cut).atStart clip 1
                s.settings.announcementGain 0 with zones := 15, hold := .playOn })
    ∧ t.sound = { s.sound with
        voice := t.sound.voice, flash := t.sound.flash,
        lastAnnouncement := t.sound.lastAnnouncement }
    ∧ SameBut [.records, .cues, .effects, .sound] s t)
  ∧ (∀ (p : Port) (s : State), s.inReset = false → p ≠ .c → s.motion.phase.moves = true →
      (∃ t, exec (.hardStop p) s = .next t ∧ s.ShowStopped .hardStop t)
      ∧ (p = .a → ∃ t, exec (.resetSectionMotion p) s = .next t ∧ s.ShowStopped .hardStop t))
  ∧ (∀ (cause : FaultCause) (s : State), s.motion.phase ≠ .faulted →
      s.ShowStopped .motionFault (s.report cause))
  ∧ (∀ (cause : LossCause) (s : State), s.permit.state ≠ .noPermit →
      match s.motion.phase with
      | .accel | .cruise | .decel | .holding | .pre | .held =>
        s.ShowStopped .permitLost (s.permitLoss cause)
      | _ => Block.cues.same s (s.permitLoss cause) ∧ Block.effects.same s (s.permitLoss cause)
          ∧ Block.sound.same s (s.permitLoss cause))
  ∧ (∀ s : State,
      match s.motion.phase with
      | .accel | .cruise | .decel | .holding => s.ShowStopped .positionLost s.positionLoss
      | _ => s.positionLoss = s)
  ∧ ∀ s : State, s.inReset = false → s.permit.state ≠ .noPermit →
      (s.motion.phase = .accel ∨ s.motion.phase = .cruise ∨ s.motion.phase = .decel
        ∨ s.motion.phase = .holding ∨ s.motion.phase = .pre ∨ s.motion.phase = .held) →
      ∃ t, exec (.revokeConsent .b) s = .next t ∧ s.ShowStopped .permitLost t
        ∧ (s.motion.phase.moves = true → t.motion.phase = .stopping)

/-- Reset Section SHOW, from port A or C (R79, R153, R166, R190): the cue engine is DISARMED with
every fired flag clear, every channel OFF with its patterns gone and every conflict count 0, every
voice IDLE without an end, the duck ceiling 255 and the zone levels 128. The cue table, the log, the
counts, the clip table and a mount in progress are kept. A voice that was not IDLE takes the
power-on values but for its end count and last end (log 30). -/
def Obligations.ShowSectionReset : Prop :=
  ∀ (p : Port) (s : State), s.inReset = false →
    ∃ t, exec (.resetSectionShow p) s = .next t
      ∧ if p = .b then RefusedOn p .rights 0x04 s t
        else
          t.cues = { s.cues with engine := .disarmed, slots := t.cues.slots }
          ∧ (∀ i : Fin 64, t.slot i = (s.slot i).map fun c => { c with fired := false })
          ∧ t.effects = { s.effects with
              channel := t.effects.channel, conflicts := Vector.replicate 6 0 }
          ∧ (∀ i : Fin 12, t.channel i = { s.channel i with
              state := .off, running := none, interval := none, bursts := none, armed := none })
          ∧ t.sound = { s.sound with
              voice := t.sound.voice, flash := t.sound.flash, duck := 255,
              zone := Vector.replicate 4 ⟨128, 128, 0⟩ }
          ∧ (∀ v : Fin 6, t.voice v = if (s.voice v).state = .idle then s.voice v
              else { Voice.powerOn with
                endCount := (s.voice v).endCount, lastEnd := (s.voice v).lastEnd })
          ∧ (∀ r, s.sound.flash = some r →
              t.sound.flash = if r.owner = .mount then some r else none)
          ∧ SameBut [.framing, .cues, .effects, .sound] s t

/-! ## Sound Unit -/

/-- Play by the tests of R172 in their order; taken, a voice that is not IDLE ends with reason CUT,
and the voice starts from the play's fields, PAUSED when it pauses on hold and the phase was last
read HELD (R173). -/
def Obligations.Play : Prop :=
  ∀ (p : Port) (a : PlayBytes) (s : State), s.inReset = false →
    ∃ t, exec (.play p a) s = .next t
      ∧ if p ≠ .c ∧ a.voice ≠ 5 then RefusedOn p .rights 0x71 s t
        else if h : a.voice.toNat < 6 ∧ a.zones.toNat ≤ 15 ∧ a.hold.toNat ≤ 1 ∧ a.cut.toNat ≤ 1 then
          if s.sound.mount.isSome then RefusedOn p .busy 0x71 s t
          else if ∀ c ∈ s.sound.clips, c.id ≠ a.clip.toNat then RefusedOn p .range 0x71 s t
          else
            let v : Fin 6 := ⟨a.voice.toNat, h.1⟩
            let idle := decide ((s.voice v).state = .idle)
            if idle = false ∧ a.cut = 0 then RefusedOn p .busy 0x71 s t
            else
              s.VoiceBecomes v
                { (if idle then s.voice v else (s.voice v).atEnd .cut).atStart a.clip.toNat
                    (if a.plays = 0 then 1 else a.plays.toNat) a.gain.toNat a.fadeIn.toNat with
                  state := if v ≠ 5 ∧ a.hold = 1 ∧ s.sound.heldSeen then .paused else .playing,
                  zones := BitVec.ofNat 4 a.zones.toNat,
                  hold := if v ≠ 5 ∧ a.hold = 1 then .pauseOnHold else .playOn }
                (!idle && s.sound.flash.any (·.owner = .voice v)) t
              ∧ Told (if idle then [] else [.voiceEnd]) [] s t
              ∧ SameBut [.framing, .records, .sound] s t
        else RefusedOn p .range 0x71 s t

/-- Stop Voice (R174) and Set Voice Gain (R175) in every state of the voice, with their rights. A
voice that ends keeps the fields that R171 does not name (log 30). Set Zone Level (R183): step 0
sets the level at once, another step sets target and step. -/
def Obligations.VoiceAndZoneCommands : Prop :=
  (∀ (p : Port) (voice a step : Byte) (s : State), s.inReset = false →
     ∀ v : Fin 6, v.val = voice.toNat % 6 → ∀ x : Voice, x = s.voice v →
     (∃ t, exec (.stopVoice p voice step) s = .next t
       ∧ if p ≠ .c ∧ voice ≠ 5 then RefusedOn p .rights 0x72 s t
         else if 5 < voice.toNat then RefusedOn p .range 0x72 s t
         else if x.state = .idle then SameBut [.framing] s t
         else if step = 0 ∨ x.state = .paused then
           s.VoiceEnds v .stop t ∧ SameBut [.framing, .records, .sound] s t
         else
           s.VoiceBecomes v
             (if x.state = .playing then
               { x with target := 0, step := step.toNat, state := .fadingOut, fade := some .stop }
              else { x with step := step.toNat }) false t
           ∧ SameBut [.framing, .sound] s t)
     ∧ ∃ t, exec (.setVoiceGain p voice a step) s = .next t
       ∧ if p ≠ .c ∧ voice ≠ 5 then RefusedOn p .rights 0x73 s t
         else if 5 < voice.toNat then RefusedOn p .range 0x73 s t
         else if x.state = .idle ∨ x.state = .fadingOut then RefusedOn p .state 0x73 s t
         else
           s.VoiceBecomes v
             (if step = 0 then { x with gain := a.toNat, target := a.toNat }
              else { x with target := a.toNat, step := step.toNat }) false t
           ∧ SameBut [.framing, .sound] s t)
  ∧ (∀ (p : Port) (zone a step : Byte) (s : State), s.inReset = false →
       ∃ t, exec (.setZoneLevel p zone a step) s = .next t
         ∧ if p ≠ .c then RefusedOn p .rights 0x74 s t
           else if h : zone.toNat < 4 then
             t.sound = { s.sound with
               zone := s.sound.zone.set zone.toNat
                 (if step = 0 then ⟨a.toNat, a.toNat, s.sound.zone[zone.toNat].step⟩
                  else ⟨s.sound.zone[zone.toNat].current, a.toNat, step.toNat⟩) }
             ∧ SameBut [.framing, .sound] s t
           else RefusedOn p .range 0x74 s t)

/-- Mount Clips (R169), taken from port C while no mount runs and every voice is IDLE, empties the
clip table and requests the header read; each mount read that ends is judged by R168 and R170 and
requests the next, until the mount ends with its outcome and MOUNT_DONE. By the model's choices a
MOUNT_READ_DONE with no mount read in flight has no effect (log 3), and the bytes read are its
operands, a header in the first three (log 23). -/
def Obligations.Mount : Prop :=
  (∀ (p : Port) (s : State), s.inReset = false →
    ∃ t, exec (.mountClips p) s = .next t
      ∧ if p ≠ .c then RefusedOn p .rights 0x70 s t
        else if s.sound.mount.isSome ∨ ∃ v, (s.voice v).state ≠ .idle then RefusedOn p .busy 0x70 s t
        else
          t.sound = { s.sound with
            clips := [], mountRequest := true, mount := some ⟨none, 0, 0, 0, s.settings.flashSize⟩ }
          ∧ SameBut [.framing, .sound] s t)
  ∧ ∀ (b : Vector Byte 12) (s : State), s.inReset = false →
    ∃ t, exec (.mountReadDone b) s = .next t
      ∧ match (s.sound.flash.map (·.owner) : Option FlashOwner), s.sound.mount with
        | some .mount, some m =>
          SameBut [.records, .sound] s t ∧ t.sound.flash = none
          ∧ t.sound = { s.sound with
              flash := none, clips := t.sound.clips, mount := t.sound.mount,
              mountRequest := t.sound.mountRequest, lastMount := t.sound.lastMount }
          ∧ match m.toRead with
            | none =>
              t.sound.clips = s.sound.clips
              ∧ if b[0] = 0xC5 ∧ b[1] = 0x3A ∧ b[2] ≠ 0 then
                  t.sound.mount = some { m with toRead := some b[2].toNat }
                  ∧ t.sound.mountRequest = true ∧ t.sound.lastMount = s.sound.lastMount
                  ∧ Told [] [] s t
                else
                  t.sound.mount = none ∧ t.sound.mountRequest = false
                  ∧ t.sound.lastMount = some ⟨.badDirectory, 0, 0⟩ ∧ Told [.mountDone] [] s t
            | some count =>
              let start := b[2].toNat * 65536 + b[3].toNat * 256 + b[4].toNat
              let length := b[5].toNat * 65536 + b[6].toNat * 256 + b[7].toNat
              let loop := b[8].toNat * 65536 + b[9].toNat * 256 + b[10].toNat
              let width := if b[1] = 1 then 2 else 1
              let good := decide (b[0] ≠ 0 ∧ (b[1] = 1 ∨ b[1] = 2 ∨ b[1] = 3) ∧ loop < length
                ∧ start + length * width ≤ m.flashSize * 1048576
                ∧ ∀ c ∈ s.sound.clips, c.id ≠ b[0].toNat)
              let valid := if good then m.valid + 1 else m.valid
              let invalid := if good then m.invalid else m.invalid + 1
              (if good then
                t.sound.clips.Perm
                  (⟨b[0].toNat, if b[1] = 1 then .pcm16 else if b[1] = 2 then .pcm8u else .pcm8s,
                    start, length, loop⟩ :: s.sound.clips)
                ∧ ((s.sound.clips.map (·.id)).Pairwise (· < ·) →
                    (t.sound.clips.map (·.id)).Pairwise (· < ·))
               else t.sound.clips = s.sound.clips)
              ∧ if m.next + 1 < count then
                  t.sound.mount = some { m with next := m.next + 1, valid := valid, invalid := invalid }
                  ∧ t.sound.mountRequest = true ∧ t.sound.lastMount = s.sound.lastMount
                  ∧ Told [] [] s t
                else
                  t.sound.mount = none ∧ t.sound.mountRequest = false
                  ∧ t.sound.lastMount = some ⟨.done, valid, invalid⟩ ∧ Told [.mountDone] [] s t
        | _, _ => t = s

/-- The flash arbiter grants a free port to a pending mount read, else to voice 5, else to the first
voice of 0 to 4 after the last served that needs a refill (R179, R180); a granted refill reads at
most 256 samples, up to the clip's end, from its fetch position. A grant with a busy port or no
request has no effect (log 3). A sample of a refill that arrives joins the voice's FIFO, converted
by its clip's format, and primes the voice (R179, R181, R184); when all have arrived the refill
ends: the fetch position has moved on, goes back to the loop start while passes remain, and is done
after the last (R179). The sample's bytes are operands of the row (log 23), and a sample or an end
that is not due has no effect (log 3). -/
def Obligations.FlashRefills : Prop :=
  (∀ s : State, s.inReset = false →
     ∀ needs : Fin 6 → Bool, needs = (fun v => decide ((s.voice v).state ≠ .idle
       ∧ (s.voice v).fifo.length < 256 ∧ (s.voice v).fetchDone = false
       ∧ (s.voice v).refillInFlight = false ∧ (s.clipOn v).isSome)) →
     ∃ t, exec .flashGrant s = .next t ∧ SameBut [.sound] s t
       ∧ if s.sound.flash.isSome then t = s
         else if s.sound.mountRequest ∧ s.sound.mount.isSome then
           t.sound = { s.sound with flash := t.sound.flash, mountRequest := false }
           ∧ ∀ m, s.sound.mount = some m → t.sound.flash = some
               (if m.toRead = none then ⟨FlashOwner.mount, 0, 3, 0, 0⟩
                else ⟨FlashOwner.mount, 3 + 12 * m.next, 12, 0, 0⟩)
         else if ∀ v, needs v = false then t = s
         else
           ∃ v, needs v = true
           ∧ (needs 5 = true → v = 5)
           ∧ (v ≠ 5 → ∀ k, k < 5 → (v.val + 5 - (s.sound.lastServed + 1) % 5) % 5 > k →
               needs ⟨(s.sound.lastServed + 1 + k) % 5, by omega⟩ = false)
           ∧ (∀ w, t.voice w
               = if w = v then { s.voice v with refillInFlight := true } else s.voice w)
           ∧ t.sound = { s.sound with
               voice := t.sound.voice, flash := t.sound.flash,
               lastServed := if v = 5 then s.sound.lastServed else v.val }
           ∧ ∀ c, s.clipOn v = some c →
               let n := min 256 (c.length - (s.voice v).fetchPosition)
               let width := if c.format = .pcm16 then 2 else 1
               t.sound.flash = some
                 ⟨.voice v, c.start + (s.voice v).fetchPosition * width, n * width, n, 0⟩)
  ∧ (∀ (lo hi : Byte) (s : State), s.inReset = false →
       ∀ r, s.sound.flash = some r → ∀ v : Fin 6, r.owner = .voice v → ∀ c, s.clipOn v = some c →
       ∀ x : Voice, x = s.voice v →
       (∃ t, exec (.refillSampleArrives lo hi) s = .next t
         ∧ if r.arrived < r.samples then
             t.sound = { s.sound with
               voice := s.sound.voice.set v { x with
                 fifo := x.fifo ++ [match c.format with
                   | .pcm16 =>
                     let w : Int := lo.toNat + 256 * hi.toNat
                     if w < 32768 then w else w - 65536
                   | .pcm8u => ((lo.toNat : Int) - 128) * 256
                   | .pcm8s => (if lo.toNat < 128 then (lo.toNat : Int) else lo.toNat - 256) * 256],
                 primed := true, starved := false },
               flash := some { r with arrived := r.arrived + 1 } }
             ∧ SameBut [.sound] s t
           else t = s)
       ∧ ∃ t, exec .refillDone s = .next t
         ∧ if r.arrived = r.samples then
             let at' := x.fetchPosition + r.samples
             let left := x.fetchPasses.getD 1
             s.VoiceBecomes v { x with
               refillInFlight := false,
               fetchPosition := if at' = c.length ∧ 1 < left then c.loopStart else at',
               fetchPasses := if at' = c.length ∧ 1 < left then
                   some (if left = 255 then 255 else left - 1) else x.fetchPasses,
               fetchDone := x.fetchDone || decide (at' = c.length ∧ left ≤ 1) } true t
             ∧ SameBut [.sound] s t
           else t = s)

/-- One sample period with no end due before it (log 4; R177, R181, R184, R185): the zones send what
the last period formed and form the saturated mix of the samples the voices take, with the duck
ceiling over voices 0 to 4 while voice 5 plays; a saturated sample is counted, and VOICE_STARVED is
latched when a voice is first found starved. -/
def Obligations.SamplePeriod : Prop :=
  ∀ s : State, s.inReset = false → s.settleSamples = s →
    ∀ heard : Fin 6 → Bool, heard = (fun v => decide (((s.voice v).state = .playing
      ∨ (s.voice v).state = .fadingOut) ∧ (s.voice v).primed = true)) →
    ∀ gain : Fin 6 → Int, gain = (fun v => if v ≠ 5 ∧ (s.voice 5).state = .playing then
      ((min (s.voice v).gain s.sound.duck : Nat) : Int) else ((s.voice v).gain : Int)) →
    ∃ t, exec (.audioSamplePeriod .asSteps) s = .next t
      ∧ exec (.audioSamplePeriod .inTick) s = .next t.settleSamples
      ∧ (∀ z : Fin 4,
          let acc := ∑ v : Fin 6, if heard v = true ∧ (s.voice v).zones.getLsbD z = true then
            (s.voice v).fifo.headD 0 * gain v else 0
          let out := acc / 128 * s.sound.zone[z].current / 128
          t.sound.sent[z] = s.sound.formed[z]
          ∧ t.sound.formed[z] = (if out < -32768 then -32768 else if 32767 < out then 32767 else out)
          ∧ t.sound.zoneClips[z] = if -32768 ≤ out ∧ out ≤ 32767 then s.sound.zoneClips[z]
              else min 65535 (s.sound.zoneClips[z] + 1))
      ∧ (∀ v : Fin 6, t.voice v =
          if heard v = false then s.voice v
          else if (s.voice v).fifo ≠ [] then
            { s.voice v with fifo := (s.voice v).fifo.tail, cursor := (s.voice v).cursor + 1 }
          else { s.voice v with starved := (s.voice v).starved || !(s.voice v).fetchDone })
      ∧ t.sound = { s.sound with
          voice := t.sound.voice, sent := t.sound.sent, formed := t.sound.formed,
          zoneClips := t.sound.zoneClips }
      ∧ Told (if ∃ v, (t.voice v).starved = true ∧ (s.voice v).starved = false then [.voiceStarved]
          else []) [] s t
      ∧ SameBut [.records, .sound] s t

/-- A voice whose cursor has reached its clip's length goes back to the loop start while plays
remain, 255 staying 255, and else ends with reason END (R177); a fade that a tick left at gain 0
ends with its own reason (R176). An end that is not due has no effect (log 3). By the model's
choices a fade is due after the tick that left it at gain 0 (log 4, 29), and a voice that ends keeps
the fields that R171 does not name (log 30). -/
def Obligations.VoicePassesAndFadesEnd : Prop :=
  ∀ (v : Fin 6) (s : State), s.inReset = false → ∀ x : Voice, x = s.voice v →
    (∃ t, exec (.clipPassEnd v) s = .next t
      ∧ if x.state ≠ .idle ∧ (s.clipOn v).any (·.length = x.cursor) = true then
          (∀ n, x.plays = some n → ∀ c, s.clipOn v = some c →
            if 1 < n then
              s.VoiceBecomes v { x with
                cursor := c.loopStart, plays := some (if n = 255 then 255 else n - 1) } false t
              ∧ SameBut [.sound] s t
            else s.VoiceEnds v .finished t ∧ SameBut [.records, .sound] s t)
        else t = s)
    ∧ ∃ t, exec (.fadeEnd v) s = .next t
      ∧ if x.fadeDue = true ∧ x.state = .fadingOut ∧ x.gain = 0 then
          s.VoiceEnds v (if x.fade = some .showStop then .showStop else .stop) t
          ∧ SameBut [.records, .sound] s t
        else t = s

/-! ## The output lines -/

/-- The lines as functions of the state (log 31, 36). A step line carries the pulses of its plan, 8
µs into their slots and 4 µs long (R47, R57); a solenoid is on by its drive and never while drive
enable is on (R108); an effect output is on by its channel's state (R154, R156), and of an exclusive
pair never both are (R160); an audio frame carries its samples (R185); the flash port sends 03h and
the address (R167); SDO is driven while CS is low (R191); ATTN is active low (R199). Under RESET
every line stands as R205 holds it. -/
def Obligations.OutputLines : Prop :=
  (∀ s : State, s.inReset = false →
    (∀ (i : Axis) (t : Nat), t < 1000000 →
      (s.stepOut i t = true ↔ ∃ k, k < (s.drive.plan.get i).due
        ∧ k * 1000000 + 8000 * (s.drive.plan.get i).slots ≤ t * (s.drive.plan.get i).slots
        ∧ t * (s.drive.plan.get i).slots < k * 1000000 + 12000 * (s.drive.plan.get i).slots
        ∧ t * (s.drive.plan.get i).slots < (k + 1) * 1000000))
    ∧ (∀ i, s.directionOut i = s.drive.direction.get i)
    ∧ s.enableOut = s.drive.enable ∧ s.brakeOut = s.drive.brakeRelease
    ∧ (∀ (i : Fin 8) (t : Nat), t < 1000000 →
      (s.solenoidOut i t = true ↔ s.seats.driveTold = false ∧ ((s.seat i).solenoid = .pullIn
        ∨ ((s.seat i).solenoid = .hold ∧ 16 * t < (s.seat i).holdLevel * 1000000))))
    ∧ (∀ (i : Fin 12) (us : Nat), s.effectOut i us = true ↔
      (s.channel i).state = .steadyOn ∨ (s.channel i).state = .pulseOn
      ∨ (s.channel i).state = .burstOn ∨ (s.channel i).state = .cycleOn
      ∨ ((s.channel i).state = .dim
        ∧ (s.channel i).running.any (fun x => decide (255 * us < 2000 * x.countOrDuty)) = true))
    ∧ (s.PairsExclusive → ∀ (q : Fin 6) (us : Nat), s.exclusive q = true →
      s.effectOut (lowerOf q) us = false ∨ s.effectOut (upperOf q) us = false)
    ∧ (∀ (rear second : Bool) (x : Int),
      x = (match rear, second with
        | false, false => s.sound.sent[0] | false, true => s.sound.sent[1]
        | true, false => s.sound.sent[2] | true, true => s.sound.sent[3]) →
      (∑ j : Fin 16, if s.audioOut rear ((if second then 25 else 0) + 1 + j) then 2 ^ (15 - j.val) else 0)
        = (x.emod 65536).toNat
      ∧ ∀ j : Fin 25, s.audioSelect ((if second then 25 else 0) + j) = second
        ∧ (j = 0 ∨ 16 < j.val → s.audioOut rear ((if second then 25 else 0) + j) = false))
    ∧ (∀ risen, s.audioClock risen = risen)
    ∧ (match s.sound.flash with
      | none => s.flashSelect = true ∧ ∀ i risen, s.flashClock i risen = false ∧ s.flashOut i = false
      | some r => s.flashSelect = false
        ∧ (∀ i risen, s.flashClock i risen = (risen && decide (i < 32 + 8 * r.bytes)))
        ∧ (∑ i : Fin 32, if s.flashOut i then 2 ^ (31 - i.val) else 0)
          = 0x03000000 + r.address % 2 ^ 24
        ∧ ∀ i, 32 ≤ i → s.flashOut i = false)
    ∧ ∀ p, s.attnLine p = (!(s.ports.get p).attn)
      ∧ (if (s.ports.get p).framer = .deselected ∧ (s.ports.get p).waitRise = false then
          ∀ k, s.sdoLine p k = none
        else (∑ k : Fin 8, if s.sdoLine p k = some true then 2 ^ (7 - k.val) else 0)
            = (s.ports.get p).sdo.toNat ∧ ∀ k, s.sdoLine p k ≠ none))
  ∧ ∀ s : State, s.inReset = true →
    s.enableOut = false ∧ s.brakeOut = false
    ∧ (∀ i t, s.stepOut i t = false ∧ s.directionOut i = .fwd)
    ∧ (∀ i t, s.solenoidOut i t = false) ∧ (∀ i us, s.effectOut i us = false)
    ∧ (∀ i risen, s.flashSelect = true ∧ s.flashClock i risen = false ∧ s.flashOut i = false)
    ∧ (∀ rear i risen, s.audioClock risen = false ∧ s.audioSelect i = false
      ∧ s.audioOut rear i = false)
    ∧ ∀ p k, s.sdoLine p k = none ∧ s.attnLine p = true

/-! ## Invariants that every step keeps -/

/-- Every step keeps flags 29 to 31 of the event sets clear and ATTN asserted exactly while set and
mask overlap (R197, R199). -/
def Obligations.StepsKeepPortsSound : Prop :=
  ∀ s t : State, s.PortsSound → step s = .next t → t.PortsSound

/-- Every step keeps drive enable as derived (R53), the Seat Monitor told of it (R108), the brake
applied in every phase that does not hold drive enable on (R55), and the servo-hold latch off in
FAULTED (R71, R75). -/
def Obligations.StepsKeepDriveSafe : Prop :=
  ∀ s t : State, s.DriveSafe → step s = .next t → t.DriveSafe

/-- Every step keeps each fitted seat CONFIRMED with the current check generation while the permit
is awaited or granted (R115). -/
def Obligations.StepsKeepPermitSound : Prop :=
  ∀ s t : State, s.PermitSound → step s = .next t → t.PermitSound

/-- Every step keeps what the motion phase and the turntable phase say of leg, timers, retreat,
holds, pending stop, fault record and run (R25, R31, R61, R69, R75, R86), and that the model's own
field lastEff holds the current leg's effective step once it has run a tick (log 37). -/
def Obligations.StepsKeepRunsShaped : Prop :=
  ∀ s t : State, s.RunsShaped → step s = .next t → t.RunsShaped

/-- Every step keeps what voices, clip table and flash port say of one another, the 512 samples of a
FIFO never exceeded among them (R169, R171, R179, R180). -/
def Obligations.StepsKeepStreamSound : Prop :=
  ∀ s t : State, s.StreamSound → step s = .next t → t.StreamSound

/-- Every step keeps the queue, the marker table and the cue log within their capacities and the
marker table ordered (R9, R20, R149), the rates of both ramps rising with the turntable position
below the counts per revolution (R23, R82, R83), and what the writes of settings left in force: the
fitted seats, the latched encoder conditions and the step lengths (R2, R23, R83, R94). -/
def Obligations.StepsKeepTablesInBounds : Prop :=
  ∀ s t : State, s.Bounded → s.RampsRising → step s = .next t →
    t.Bounded ∧ t.RampsRising ∧ (s.SettingsInForce → t.SettingsInForce)

/-- Every step keeps the channels of an exclusive pair from being both active (R158, R160). -/
def Obligations.StepsKeepPairsExclusive : Prop :=
  ∀ s t : State, s.PairsExclusive → step s = .next t → t.PairsExclusive
end

