-- ==== Sys2Proof/Laws/State.lean ====
section
/-! SUPPORT. Reading a field after one of the updates of the state: one lemma per field and update, so
that no proof unfolds an update. -/

namespace Sys2Proof.Machine

/-! ### `State.onPorts` -/

section
variable (s : State) (f : PerPort PortState → PerPort PortState)

@[simp] theorem State.onPorts_ports : (s.onPorts f).ports = f s.ports := rfl
@[simp] theorem State.onPorts_settings : (s.onPorts f).settings = s.settings := rfl
@[simp] theorem State.onPorts_route : (s.onPorts f).route = s.route := rfl
@[simp] theorem State.onPorts_motion : (s.onPorts f).motion = s.motion := rfl
@[simp] theorem State.onPorts_drive : (s.onPorts f).drive = s.drive := rfl
@[simp] theorem State.onPorts_tt : (s.onPorts f).tt = s.tt := rfl
@[simp] theorem State.onPorts_seats : (s.onPorts f).seats = s.seats := rfl
@[simp] theorem State.onPorts_permit : (s.onPorts f).permit = s.permit := rfl
@[simp] theorem State.onPorts_cues : (s.onPorts f).cues = s.cues := rfl
@[simp] theorem State.onPorts_effects : (s.onPorts f).effects = s.effects := rfl
@[simp] theorem State.onPorts_sound : (s.onPorts f).sound = s.sound := rfl
@[simp] theorem State.onPorts_pins : (s.onPorts f).pins = s.pins := rfl
@[simp] theorem State.onPorts_inReset : (s.onPorts f).inReset = s.inReset := rfl
@[simp] theorem State.onPorts_freeCount : (s.onPorts f).freeCount = s.freeCount := rfl
@[simp] theorem State.onPorts_pending : (s.onPorts f).pending = s.pending := rfl

end

/-! ### `State.onSettings` -/

section
variable (s : State) (f : Settings → Settings)

@[simp] theorem State.onSettings_ports : (s.onSettings f).ports = s.ports := rfl
@[simp] theorem State.onSettings_settings : (s.onSettings f).settings = f s.settings := rfl
@[simp] theorem State.onSettings_route : (s.onSettings f).route = s.route := rfl
@[simp] theorem State.onSettings_motion : (s.onSettings f).motion = s.motion := rfl
@[simp] theorem State.onSettings_drive : (s.onSettings f).drive = s.drive := rfl
@[simp] theorem State.onSettings_tt : (s.onSettings f).tt = s.tt := rfl
@[simp] theorem State.onSettings_seats : (s.onSettings f).seats = s.seats := rfl
@[simp] theorem State.onSettings_permit : (s.onSettings f).permit = s.permit := rfl
@[simp] theorem State.onSettings_cues : (s.onSettings f).cues = s.cues := rfl
@[simp] theorem State.onSettings_effects : (s.onSettings f).effects = s.effects := rfl
@[simp] theorem State.onSettings_sound : (s.onSettings f).sound = s.sound := rfl
@[simp] theorem State.onSettings_pins : (s.onSettings f).pins = s.pins := rfl
@[simp] theorem State.onSettings_inReset : (s.onSettings f).inReset = s.inReset := rfl
@[simp] theorem State.onSettings_freeCount : (s.onSettings f).freeCount = s.freeCount := rfl
@[simp] theorem State.onSettings_pending : (s.onSettings f).pending = s.pending := rfl

end

/-! ### `State.onRoute` -/

section
variable (s : State) (f : RouteCounter → RouteCounter)

@[simp] theorem State.onRoute_ports : (s.onRoute f).ports = s.ports := rfl
@[simp] theorem State.onRoute_settings : (s.onRoute f).settings = s.settings := rfl
@[simp] theorem State.onRoute_route : (s.onRoute f).route = f s.route := rfl
@[simp] theorem State.onRoute_motion : (s.onRoute f).motion = s.motion := rfl
@[simp] theorem State.onRoute_drive : (s.onRoute f).drive = s.drive := rfl
@[simp] theorem State.onRoute_tt : (s.onRoute f).tt = s.tt := rfl
@[simp] theorem State.onRoute_seats : (s.onRoute f).seats = s.seats := rfl
@[simp] theorem State.onRoute_permit : (s.onRoute f).permit = s.permit := rfl
@[simp] theorem State.onRoute_cues : (s.onRoute f).cues = s.cues := rfl
@[simp] theorem State.onRoute_effects : (s.onRoute f).effects = s.effects := rfl
@[simp] theorem State.onRoute_sound : (s.onRoute f).sound = s.sound := rfl
@[simp] theorem State.onRoute_pins : (s.onRoute f).pins = s.pins := rfl
@[simp] theorem State.onRoute_inReset : (s.onRoute f).inReset = s.inReset := rfl
@[simp] theorem State.onRoute_freeCount : (s.onRoute f).freeCount = s.freeCount := rfl
@[simp] theorem State.onRoute_pending : (s.onRoute f).pending = s.pending := rfl

end

/-! ### `State.onMotion` -/

section
variable (s : State) (f : MotionGenerator → MotionGenerator)

@[simp] theorem State.onMotion_ports : (s.onMotion f).ports = s.ports := rfl
@[simp] theorem State.onMotion_settings : (s.onMotion f).settings = s.settings := rfl
@[simp] theorem State.onMotion_route : (s.onMotion f).route = s.route := rfl
@[simp] theorem State.onMotion_motion : (s.onMotion f).motion = f s.motion := rfl
@[simp] theorem State.onMotion_drive : (s.onMotion f).drive = s.drive := rfl
@[simp] theorem State.onMotion_tt : (s.onMotion f).tt = s.tt := rfl
@[simp] theorem State.onMotion_seats : (s.onMotion f).seats = s.seats := rfl
@[simp] theorem State.onMotion_permit : (s.onMotion f).permit = s.permit := rfl
@[simp] theorem State.onMotion_cues : (s.onMotion f).cues = s.cues := rfl
@[simp] theorem State.onMotion_effects : (s.onMotion f).effects = s.effects := rfl
@[simp] theorem State.onMotion_sound : (s.onMotion f).sound = s.sound := rfl
@[simp] theorem State.onMotion_pins : (s.onMotion f).pins = s.pins := rfl
@[simp] theorem State.onMotion_inReset : (s.onMotion f).inReset = s.inReset := rfl
@[simp] theorem State.onMotion_freeCount : (s.onMotion f).freeCount = s.freeCount := rfl
@[simp] theorem State.onMotion_pending : (s.onMotion f).pending = s.pending := rfl

end

/-! ### `State.onDrive` -/

section
variable (s : State) (f : DriveUnit → DriveUnit)

@[simp] theorem State.onDrive_ports : (s.onDrive f).ports = s.ports := rfl
@[simp] theorem State.onDrive_settings : (s.onDrive f).settings = s.settings := rfl
@[simp] theorem State.onDrive_route : (s.onDrive f).route = s.route := rfl
@[simp] theorem State.onDrive_motion : (s.onDrive f).motion = s.motion := rfl
@[simp] theorem State.onDrive_drive : (s.onDrive f).drive = f s.drive := rfl
@[simp] theorem State.onDrive_tt : (s.onDrive f).tt = s.tt := rfl
@[simp] theorem State.onDrive_seats : (s.onDrive f).seats = s.seats := rfl
@[simp] theorem State.onDrive_permit : (s.onDrive f).permit = s.permit := rfl
@[simp] theorem State.onDrive_cues : (s.onDrive f).cues = s.cues := rfl
@[simp] theorem State.onDrive_effects : (s.onDrive f).effects = s.effects := rfl
@[simp] theorem State.onDrive_sound : (s.onDrive f).sound = s.sound := rfl
@[simp] theorem State.onDrive_pins : (s.onDrive f).pins = s.pins := rfl
@[simp] theorem State.onDrive_inReset : (s.onDrive f).inReset = s.inReset := rfl
@[simp] theorem State.onDrive_freeCount : (s.onDrive f).freeCount = s.freeCount := rfl
@[simp] theorem State.onDrive_pending : (s.onDrive f).pending = s.pending := rfl

end

/-! ### `State.onTurntable` -/

section
variable (s : State) (f : Turntable → Turntable)

@[simp] theorem State.onTurntable_ports : (s.onTurntable f).ports = s.ports := rfl
@[simp] theorem State.onTurntable_settings : (s.onTurntable f).settings = s.settings := rfl
@[simp] theorem State.onTurntable_route : (s.onTurntable f).route = s.route := rfl
@[simp] theorem State.onTurntable_motion : (s.onTurntable f).motion = s.motion := rfl
@[simp] theorem State.onTurntable_drive : (s.onTurntable f).drive = s.drive := rfl
@[simp] theorem State.onTurntable_tt : (s.onTurntable f).tt = f s.tt := rfl
@[simp] theorem State.onTurntable_seats : (s.onTurntable f).seats = s.seats := rfl
@[simp] theorem State.onTurntable_permit : (s.onTurntable f).permit = s.permit := rfl
@[simp] theorem State.onTurntable_cues : (s.onTurntable f).cues = s.cues := rfl
@[simp] theorem State.onTurntable_effects : (s.onTurntable f).effects = s.effects := rfl
@[simp] theorem State.onTurntable_sound : (s.onTurntable f).sound = s.sound := rfl
@[simp] theorem State.onTurntable_pins : (s.onTurntable f).pins = s.pins := rfl
@[simp] theorem State.onTurntable_inReset : (s.onTurntable f).inReset = s.inReset := rfl
@[simp] theorem State.onTurntable_freeCount : (s.onTurntable f).freeCount = s.freeCount := rfl
@[simp] theorem State.onTurntable_pending : (s.onTurntable f).pending = s.pending := rfl

end

/-! ### `State.onSeats` -/

section
variable (s : State) (f : SeatMonitor → SeatMonitor)

@[simp] theorem State.onSeats_ports : (s.onSeats f).ports = s.ports := rfl
@[simp] theorem State.onSeats_settings : (s.onSeats f).settings = s.settings := rfl
@[simp] theorem State.onSeats_route : (s.onSeats f).route = s.route := rfl
@[simp] theorem State.onSeats_motion : (s.onSeats f).motion = s.motion := rfl
@[simp] theorem State.onSeats_drive : (s.onSeats f).drive = s.drive := rfl
@[simp] theorem State.onSeats_tt : (s.onSeats f).tt = s.tt := rfl
@[simp] theorem State.onSeats_seats : (s.onSeats f).seats = f s.seats := rfl
@[simp] theorem State.onSeats_permit : (s.onSeats f).permit = s.permit := rfl
@[simp] theorem State.onSeats_cues : (s.onSeats f).cues = s.cues := rfl
@[simp] theorem State.onSeats_effects : (s.onSeats f).effects = s.effects := rfl
@[simp] theorem State.onSeats_sound : (s.onSeats f).sound = s.sound := rfl
@[simp] theorem State.onSeats_pins : (s.onSeats f).pins = s.pins := rfl
@[simp] theorem State.onSeats_inReset : (s.onSeats f).inReset = s.inReset := rfl
@[simp] theorem State.onSeats_freeCount : (s.onSeats f).freeCount = s.freeCount := rfl
@[simp] theorem State.onSeats_pending : (s.onSeats f).pending = s.pending := rfl

end

/-! ### `State.onPermit` -/

section
variable (s : State) (f : Permit → Permit)

@[simp] theorem State.onPermit_ports : (s.onPermit f).ports = s.ports := rfl
@[simp] theorem State.onPermit_settings : (s.onPermit f).settings = s.settings := rfl
@[simp] theorem State.onPermit_route : (s.onPermit f).route = s.route := rfl
@[simp] theorem State.onPermit_motion : (s.onPermit f).motion = s.motion := rfl
@[simp] theorem State.onPermit_drive : (s.onPermit f).drive = s.drive := rfl
@[simp] theorem State.onPermit_tt : (s.onPermit f).tt = s.tt := rfl
@[simp] theorem State.onPermit_seats : (s.onPermit f).seats = s.seats := rfl
@[simp] theorem State.onPermit_permit : (s.onPermit f).permit = f s.permit := rfl
@[simp] theorem State.onPermit_cues : (s.onPermit f).cues = s.cues := rfl
@[simp] theorem State.onPermit_effects : (s.onPermit f).effects = s.effects := rfl
@[simp] theorem State.onPermit_sound : (s.onPermit f).sound = s.sound := rfl
@[simp] theorem State.onPermit_pins : (s.onPermit f).pins = s.pins := rfl
@[simp] theorem State.onPermit_inReset : (s.onPermit f).inReset = s.inReset := rfl
@[simp] theorem State.onPermit_freeCount : (s.onPermit f).freeCount = s.freeCount := rfl
@[simp] theorem State.onPermit_pending : (s.onPermit f).pending = s.pending := rfl

end

/-! ### `State.onCues` -/

section
variable (s : State) (f : CueEngine → CueEngine)

@[simp] theorem State.onCues_ports : (s.onCues f).ports = s.ports := rfl
@[simp] theorem State.onCues_settings : (s.onCues f).settings = s.settings := rfl
@[simp] theorem State.onCues_route : (s.onCues f).route = s.route := rfl
@[simp] theorem State.onCues_motion : (s.onCues f).motion = s.motion := rfl
@[simp] theorem State.onCues_drive : (s.onCues f).drive = s.drive := rfl
@[simp] theorem State.onCues_tt : (s.onCues f).tt = s.tt := rfl
@[simp] theorem State.onCues_seats : (s.onCues f).seats = s.seats := rfl
@[simp] theorem State.onCues_permit : (s.onCues f).permit = s.permit := rfl
@[simp] theorem State.onCues_cues : (s.onCues f).cues = f s.cues := rfl
@[simp] theorem State.onCues_effects : (s.onCues f).effects = s.effects := rfl
@[simp] theorem State.onCues_sound : (s.onCues f).sound = s.sound := rfl
@[simp] theorem State.onCues_pins : (s.onCues f).pins = s.pins := rfl
@[simp] theorem State.onCues_inReset : (s.onCues f).inReset = s.inReset := rfl
@[simp] theorem State.onCues_freeCount : (s.onCues f).freeCount = s.freeCount := rfl
@[simp] theorem State.onCues_pending : (s.onCues f).pending = s.pending := rfl

end

/-! ### `State.onEffects` -/

section
variable (s : State) (f : EffectBank → EffectBank)

@[simp] theorem State.onEffects_ports : (s.onEffects f).ports = s.ports := rfl
@[simp] theorem State.onEffects_settings : (s.onEffects f).settings = s.settings := rfl
@[simp] theorem State.onEffects_route : (s.onEffects f).route = s.route := rfl
@[simp] theorem State.onEffects_motion : (s.onEffects f).motion = s.motion := rfl
@[simp] theorem State.onEffects_drive : (s.onEffects f).drive = s.drive := rfl
@[simp] theorem State.onEffects_tt : (s.onEffects f).tt = s.tt := rfl
@[simp] theorem State.onEffects_seats : (s.onEffects f).seats = s.seats := rfl
@[simp] theorem State.onEffects_permit : (s.onEffects f).permit = s.permit := rfl
@[simp] theorem State.onEffects_cues : (s.onEffects f).cues = s.cues := rfl
@[simp] theorem State.onEffects_effects : (s.onEffects f).effects = f s.effects := rfl
@[simp] theorem State.onEffects_sound : (s.onEffects f).sound = s.sound := rfl
@[simp] theorem State.onEffects_pins : (s.onEffects f).pins = s.pins := rfl
@[simp] theorem State.onEffects_inReset : (s.onEffects f).inReset = s.inReset := rfl
@[simp] theorem State.onEffects_freeCount : (s.onEffects f).freeCount = s.freeCount := rfl
@[simp] theorem State.onEffects_pending : (s.onEffects f).pending = s.pending := rfl

end

/-! ### `State.onSound` -/

section
variable (s : State) (f : SoundUnit → SoundUnit)

@[simp] theorem State.onSound_ports : (s.onSound f).ports = s.ports := rfl
@[simp] theorem State.onSound_settings : (s.onSound f).settings = s.settings := rfl
@[simp] theorem State.onSound_route : (s.onSound f).route = s.route := rfl
@[simp] theorem State.onSound_motion : (s.onSound f).motion = s.motion := rfl
@[simp] theorem State.onSound_drive : (s.onSound f).drive = s.drive := rfl
@[simp] theorem State.onSound_tt : (s.onSound f).tt = s.tt := rfl
@[simp] theorem State.onSound_seats : (s.onSound f).seats = s.seats := rfl
@[simp] theorem State.onSound_permit : (s.onSound f).permit = s.permit := rfl
@[simp] theorem State.onSound_cues : (s.onSound f).cues = s.cues := rfl
@[simp] theorem State.onSound_effects : (s.onSound f).effects = s.effects := rfl
@[simp] theorem State.onSound_sound : (s.onSound f).sound = f s.sound := rfl
@[simp] theorem State.onSound_pins : (s.onSound f).pins = s.pins := rfl
@[simp] theorem State.onSound_inReset : (s.onSound f).inReset = s.inReset := rfl
@[simp] theorem State.onSound_freeCount : (s.onSound f).freeCount = s.freeCount := rfl
@[simp] theorem State.onSound_pending : (s.onSound f).pending = s.pending := rfl

end

/-! ### `State.onPort` -/

section
variable (s : State) (p : Port) (f : PortState → PortState)

@[simp] theorem State.onPort_ports : (s.onPort p f).ports = s.ports.modify f p := rfl
@[simp] theorem State.onPort_settings : (s.onPort p f).settings = s.settings := rfl
@[simp] theorem State.onPort_route : (s.onPort p f).route = s.route := rfl
@[simp] theorem State.onPort_motion : (s.onPort p f).motion = s.motion := rfl
@[simp] theorem State.onPort_drive : (s.onPort p f).drive = s.drive := rfl
@[simp] theorem State.onPort_tt : (s.onPort p f).tt = s.tt := rfl
@[simp] theorem State.onPort_seats : (s.onPort p f).seats = s.seats := rfl
@[simp] theorem State.onPort_permit : (s.onPort p f).permit = s.permit := rfl
@[simp] theorem State.onPort_cues : (s.onPort p f).cues = s.cues := rfl
@[simp] theorem State.onPort_effects : (s.onPort p f).effects = s.effects := rfl
@[simp] theorem State.onPort_sound : (s.onPort p f).sound = s.sound := rfl
@[simp] theorem State.onPort_pins : (s.onPort p f).pins = s.pins := rfl
@[simp] theorem State.onPort_inReset : (s.onPort p f).inReset = s.inReset := rfl
@[simp] theorem State.onPort_freeCount : (s.onPort p f).freeCount = s.freeCount := rfl
@[simp] theorem State.onPort_pending : (s.onPort p f).pending = s.pending := rfl

end

/-! ### `State.withPins` -/

section
variable (s : State) (x : Pins)

@[simp] theorem State.withPins_ports : (s.withPins x).ports = s.ports := rfl
@[simp] theorem State.withPins_settings : (s.withPins x).settings = s.settings := rfl
@[simp] theorem State.withPins_route : (s.withPins x).route = s.route := rfl
@[simp] theorem State.withPins_motion : (s.withPins x).motion = s.motion := rfl
@[simp] theorem State.withPins_drive : (s.withPins x).drive = s.drive := rfl
@[simp] theorem State.withPins_tt : (s.withPins x).tt = s.tt := rfl
@[simp] theorem State.withPins_seats : (s.withPins x).seats = s.seats := rfl
@[simp] theorem State.withPins_permit : (s.withPins x).permit = s.permit := rfl
@[simp] theorem State.withPins_cues : (s.withPins x).cues = s.cues := rfl
@[simp] theorem State.withPins_effects : (s.withPins x).effects = s.effects := rfl
@[simp] theorem State.withPins_sound : (s.withPins x).sound = s.sound := rfl
@[simp] theorem State.withPins_pins : (s.withPins x).pins = x := rfl
@[simp] theorem State.withPins_inReset : (s.withPins x).inReset = s.inReset := rfl
@[simp] theorem State.withPins_freeCount : (s.withPins x).freeCount = s.freeCount := rfl
@[simp] theorem State.withPins_pending : (s.withPins x).pending = s.pending := rfl

end

/-! ### `State.spendFree` -/

section
variable (s : State) (n : Nat)

@[simp] theorem State.spendFree_ports : (s.spendFree n).ports = s.ports := rfl
@[simp] theorem State.spendFree_settings : (s.spendFree n).settings = s.settings := rfl
@[simp] theorem State.spendFree_route : (s.spendFree n).route = s.route := rfl
@[simp] theorem State.spendFree_motion : (s.spendFree n).motion = s.motion := rfl
@[simp] theorem State.spendFree_drive : (s.spendFree n).drive = s.drive := rfl
@[simp] theorem State.spendFree_tt : (s.spendFree n).tt = s.tt := rfl
@[simp] theorem State.spendFree_seats : (s.spendFree n).seats = s.seats := rfl
@[simp] theorem State.spendFree_permit : (s.spendFree n).permit = s.permit := rfl
@[simp] theorem State.spendFree_cues : (s.spendFree n).cues = s.cues := rfl
@[simp] theorem State.spendFree_effects : (s.spendFree n).effects = s.effects := rfl
@[simp] theorem State.spendFree_sound : (s.spendFree n).sound = s.sound := rfl
@[simp] theorem State.spendFree_pins : (s.spendFree n).pins = s.pins := rfl
@[simp] theorem State.spendFree_inReset : (s.spendFree n).inReset = s.inReset := rfl
@[simp] theorem State.spendFree_freeCount : (s.spendFree n).freeCount = s.freeCount + n := rfl
@[simp] theorem State.spendFree_pending : (s.spendFree n).pending = s.pending := rfl

end

/-! ### `State.setSeat` -/

section
variable (s : State) (i : Fin 8) (x : Seat)

@[simp] theorem State.setSeat_ports : (s.setSeat i x).ports = s.ports := rfl
@[simp] theorem State.setSeat_settings : (s.setSeat i x).settings = s.settings := rfl
@[simp] theorem State.setSeat_route : (s.setSeat i x).route = s.route := rfl
@[simp] theorem State.setSeat_motion : (s.setSeat i x).motion = s.motion := rfl
@[simp] theorem State.setSeat_drive : (s.setSeat i x).drive = s.drive := rfl
@[simp] theorem State.setSeat_tt : (s.setSeat i x).tt = s.tt := rfl
@[simp] theorem State.setSeat_seats : (s.setSeat i x).seats = { s.seats with seat := s.seats.seat.set i x } :=
    rfl
@[simp] theorem State.setSeat_permit : (s.setSeat i x).permit = s.permit := rfl
@[simp] theorem State.setSeat_cues : (s.setSeat i x).cues = s.cues := rfl
@[simp] theorem State.setSeat_effects : (s.setSeat i x).effects = s.effects := rfl
@[simp] theorem State.setSeat_sound : (s.setSeat i x).sound = s.sound := rfl
@[simp] theorem State.setSeat_pins : (s.setSeat i x).pins = s.pins := rfl
@[simp] theorem State.setSeat_inReset : (s.setSeat i x).inReset = s.inReset := rfl
@[simp] theorem State.setSeat_freeCount : (s.setSeat i x).freeCount = s.freeCount := rfl
@[simp] theorem State.setSeat_pending : (s.setSeat i x).pending = s.pending := rfl

end

/-! ### `State.setChannel` -/

section
variable (s : State) (i : Fin 12) (x : Channel)

@[simp] theorem State.setChannel_ports : (s.setChannel i x).ports = s.ports := rfl
@[simp] theorem State.setChannel_settings : (s.setChannel i x).settings = s.settings := rfl
@[simp] theorem State.setChannel_route : (s.setChannel i x).route = s.route := rfl
@[simp] theorem State.setChannel_motion : (s.setChannel i x).motion = s.motion := rfl
@[simp] theorem State.setChannel_drive : (s.setChannel i x).drive = s.drive := rfl
@[simp] theorem State.setChannel_tt : (s.setChannel i x).tt = s.tt := rfl
@[simp] theorem State.setChannel_seats : (s.setChannel i x).seats = s.seats := rfl
@[simp] theorem State.setChannel_permit : (s.setChannel i x).permit = s.permit := rfl
@[simp] theorem State.setChannel_cues : (s.setChannel i x).cues = s.cues := rfl
@[simp] theorem State.setChannel_effects : (s.setChannel i x).effects = { s.effects with channel := s.effects.channel.set i x } :=
    rfl
@[simp] theorem State.setChannel_sound : (s.setChannel i x).sound = s.sound := rfl
@[simp] theorem State.setChannel_pins : (s.setChannel i x).pins = s.pins := rfl
@[simp] theorem State.setChannel_inReset : (s.setChannel i x).inReset = s.inReset := rfl
@[simp] theorem State.setChannel_freeCount : (s.setChannel i x).freeCount = s.freeCount := rfl
@[simp] theorem State.setChannel_pending : (s.setChannel i x).pending = s.pending := rfl

end

/-! ### `State.setVoice` -/

section
variable (s : State) (i : Fin 6) (x : Voice)

@[simp] theorem State.setVoice_ports : (s.setVoice i x).ports = s.ports := rfl
@[simp] theorem State.setVoice_settings : (s.setVoice i x).settings = s.settings := rfl
@[simp] theorem State.setVoice_route : (s.setVoice i x).route = s.route := rfl
@[simp] theorem State.setVoice_motion : (s.setVoice i x).motion = s.motion := rfl
@[simp] theorem State.setVoice_drive : (s.setVoice i x).drive = s.drive := rfl
@[simp] theorem State.setVoice_tt : (s.setVoice i x).tt = s.tt := rfl
@[simp] theorem State.setVoice_seats : (s.setVoice i x).seats = s.seats := rfl
@[simp] theorem State.setVoice_permit : (s.setVoice i x).permit = s.permit := rfl
@[simp] theorem State.setVoice_cues : (s.setVoice i x).cues = s.cues := rfl
@[simp] theorem State.setVoice_effects : (s.setVoice i x).effects = s.effects := rfl
@[simp] theorem State.setVoice_sound : (s.setVoice i x).sound = { s.sound with voice := s.sound.voice.set i x } :=
    rfl
@[simp] theorem State.setVoice_pins : (s.setVoice i x).pins = s.pins := rfl
@[simp] theorem State.setVoice_inReset : (s.setVoice i x).inReset = s.inReset := rfl
@[simp] theorem State.setVoice_freeCount : (s.setVoice i x).freeCount = s.freeCount := rfl
@[simp] theorem State.setVoice_pending : (s.setVoice i x).pending = s.pending := rfl

end

/-! ### `State.setSlot` -/

section
variable (s : State) (i : Fin 64) (x : Option Cue)

@[simp] theorem State.setSlot_ports : (s.setSlot i x).ports = s.ports := rfl
@[simp] theorem State.setSlot_settings : (s.setSlot i x).settings = s.settings := rfl
@[simp] theorem State.setSlot_route : (s.setSlot i x).route = s.route := rfl
@[simp] theorem State.setSlot_motion : (s.setSlot i x).motion = s.motion := rfl
@[simp] theorem State.setSlot_drive : (s.setSlot i x).drive = s.drive := rfl
@[simp] theorem State.setSlot_tt : (s.setSlot i x).tt = s.tt := rfl
@[simp] theorem State.setSlot_seats : (s.setSlot i x).seats = s.seats := rfl
@[simp] theorem State.setSlot_permit : (s.setSlot i x).permit = s.permit := rfl
@[simp] theorem State.setSlot_cues : (s.setSlot i x).cues = { s.cues with slots := s.cues.slots.set i x } :=
    rfl
@[simp] theorem State.setSlot_effects : (s.setSlot i x).effects = s.effects := rfl
@[simp] theorem State.setSlot_sound : (s.setSlot i x).sound = s.sound := rfl
@[simp] theorem State.setSlot_pins : (s.setSlot i x).pins = s.pins := rfl
@[simp] theorem State.setSlot_inReset : (s.setSlot i x).inReset = s.inReset := rfl
@[simp] theorem State.setSlot_freeCount : (s.setSlot i x).freeCount = s.freeCount := rfl
@[simp] theorem State.setSlot_pending : (s.setSlot i x).pending = s.pending := rfl

end

/-! ### `State.latch` -/

section
variable (s : State) (e : Event)

@[simp] theorem State.latch_ports : (s.latch e).ports = s.ports.map (·.latch e) := rfl
@[simp] theorem State.latch_settings : (s.latch e).settings = s.settings := rfl
@[simp] theorem State.latch_route : (s.latch e).route = s.route := rfl
@[simp] theorem State.latch_motion : (s.latch e).motion = s.motion := rfl
@[simp] theorem State.latch_drive : (s.latch e).drive = s.drive := rfl
@[simp] theorem State.latch_tt : (s.latch e).tt = s.tt := rfl
@[simp] theorem State.latch_seats : (s.latch e).seats = s.seats := rfl
@[simp] theorem State.latch_permit : (s.latch e).permit = s.permit := rfl
@[simp] theorem State.latch_cues : (s.latch e).cues = s.cues := rfl
@[simp] theorem State.latch_effects : (s.latch e).effects = s.effects := rfl
@[simp] theorem State.latch_sound : (s.latch e).sound = s.sound := rfl
@[simp] theorem State.latch_pins : (s.latch e).pins = s.pins := rfl
@[simp] theorem State.latch_inReset : (s.latch e).inReset = s.inReset := rfl
@[simp] theorem State.latch_freeCount : (s.latch e).freeCount = s.freeCount := rfl
@[simp] theorem State.latch_pending : (s.latch e).pending = s.pending := rfl

end

/-! ### `State.latchEntry` -/

section
variable (s : State) (ph : Phase)

@[simp] theorem State.latchEntry_ports : (s.latchEntry ph).ports = s.ports.map fun x => if x.watches ph then x.latch .phaseEntered else x :=
    rfl
@[simp] theorem State.latchEntry_settings : (s.latchEntry ph).settings = s.settings := rfl
@[simp] theorem State.latchEntry_route : (s.latchEntry ph).route = s.route := rfl
@[simp] theorem State.latchEntry_motion : (s.latchEntry ph).motion = s.motion := rfl
@[simp] theorem State.latchEntry_drive : (s.latchEntry ph).drive = s.drive := rfl
@[simp] theorem State.latchEntry_tt : (s.latchEntry ph).tt = s.tt := rfl
@[simp] theorem State.latchEntry_seats : (s.latchEntry ph).seats = s.seats := rfl
@[simp] theorem State.latchEntry_permit : (s.latchEntry ph).permit = s.permit := rfl
@[simp] theorem State.latchEntry_cues : (s.latchEntry ph).cues = s.cues := rfl
@[simp] theorem State.latchEntry_effects : (s.latchEntry ph).effects = s.effects := rfl
@[simp] theorem State.latchEntry_sound : (s.latchEntry ph).sound = s.sound := rfl
@[simp] theorem State.latchEntry_pins : (s.latchEntry ph).pins = s.pins := rfl
@[simp] theorem State.latchEntry_inReset : (s.latchEntry ph).inReset = s.inReset := rfl
@[simp] theorem State.latchEntry_freeCount : (s.latchEntry ph).freeCount = s.freeCount := rfl
@[simp] theorem State.latchEntry_pending : (s.latchEntry ph).pending = s.pending := rfl

end

/-! ### `State.refuse` -/

section
variable (s : State) (p : Port) (r : Reason) (code : Byte)

@[simp] theorem State.refuse_ports : (s.refuse p r code).ports = s.ports.modify (fun x => { x with lastRefusal := some ⟨r, code⟩ }.latch .refused) p :=
    rfl
@[simp] theorem State.refuse_settings : (s.refuse p r code).settings = s.settings := rfl
@[simp] theorem State.refuse_route : (s.refuse p r code).route = s.route := rfl
@[simp] theorem State.refuse_motion : (s.refuse p r code).motion = s.motion := rfl
@[simp] theorem State.refuse_drive : (s.refuse p r code).drive = s.drive := rfl
@[simp] theorem State.refuse_tt : (s.refuse p r code).tt = s.tt := rfl
@[simp] theorem State.refuse_seats : (s.refuse p r code).seats = s.seats := rfl
@[simp] theorem State.refuse_permit : (s.refuse p r code).permit = s.permit := rfl
@[simp] theorem State.refuse_cues : (s.refuse p r code).cues = s.cues := rfl
@[simp] theorem State.refuse_effects : (s.refuse p r code).effects = s.effects := rfl
@[simp] theorem State.refuse_sound : (s.refuse p r code).sound = s.sound := rfl
@[simp] theorem State.refuse_pins : (s.refuse p r code).pins = s.pins := rfl
@[simp] theorem State.refuse_inReset : (s.refuse p r code).inReset = s.inReset := rfl
@[simp] theorem State.refuse_freeCount : (s.refuse p r code).freeCount = s.freeCount := rfl
@[simp] theorem State.refuse_pending : (s.refuse p r code).pending = s.pending := rfl

end

/-! ### Reading one member after a write -/

@[simp] theorem PerPort_get_modify {α : Type} (x : PerPort α) (f : α → α) (p q : Port) :
    (x.modify f p).get q = if q = p then f (x.get q) else x.get q := by
  cases p <;> cases q <;> rfl

@[simp] theorem PerPort_get_map {α : Type} (x : PerPort α) (f : α → α) (q : Port) :
    (x.map f).get q = f (x.get q) := by cases q <;> rfl

@[simp] theorem PerAxis_get_modify {α : Type} (x : PerAxis α) (f : α → α) (i j : Axis) :
    (x.modify f i).get j = if j = i then f (x.get j) else x.get j := by
  cases i <;> cases j <;> rfl

@[simp] theorem PerAxis_get_set {α : Type} (x : PerAxis α) (i j : Axis) (v : α) :
    (x.set i v).get j = if j = i then v else x.get j := by
  cases i <;> cases j <;> rfl

theorem Vector_get_set {α : Type} {n : Nat} (v : Vector α n) (i j : Fin n) (x : α) :
    (v.set i x)[j] = if i = j then x else v[j] := by
  simp [Vector.getElem_set, Fin.ext_iff]

/-- The record of a seat after a seat has been set. -/
@[simp] theorem State.seat_setSeat (s : State) (i j : Fin 8) (x : Seat) :
    (s.setSeat i x).seat j = if i = j then x else s.seat j := Vector_get_set _ _ _ _

/-- The record of a channel after a channel has been set. -/
@[simp] theorem State.channel_setChannel (s : State) (i j : Fin 12) (x : Channel) :
    (s.setChannel i x).channel j = if i = j then x else s.channel j := Vector_get_set _ _ _ _

/-- The record of a voice after a voice has been set. -/
@[simp] theorem State.voice_setVoice (s : State) (i j : Fin 6) (x : Voice) :
    (s.setVoice i x).voice j = if i = j then x else s.voice j := Vector_get_set _ _ _ _

/-- The cue of a slot after a slot has been set. -/
@[simp] theorem State.slot_setSlot (s : State) (i j : Fin 64) (x : Option Cue) :
    (s.setSlot i x).slot j = if i = j then x else s.slot j := Vector_get_set _ _ _ _

/-! ### Plans and the gap timer -/

@[simp] theorem Plan.of_slots (n : Nat) : (Plan.of n).slots = n := rfl
@[simp] theorem Plan.of_due (n : Nat) : (Plan.of n).due = n := rfl
@[simp] theorem Plan.of_emitted (n : Nat) : (Plan.of n).emitted = 0 := rfl
@[simp] theorem Plan.of_remaining (n : Nat) : (Plan.of n).remaining = n := rfl

end Sys2Proof.Machine
end

