-- ==== Sys2Proof/Laws/Outside.lean ====
section
/-! SUPPORT. What each shared operation leaves alone: one `SameBut` lemma per operation, and how such
lemmas are put together. -/

namespace Sys2Proof.Machine

/-! ## Putting frames together -/

theorem Block.same_refl (b : Block) (s : State) : b.same s s := by
  cases b <;> simp [Block.same]

theorem Block.same_trans {b : Block} {s t u : State} (h : b.same s t) (k : b.same t u) :
    b.same s u := by
  cases b <;> simp_all [Block.same]

theorem SameBut_refl (a : List Block) (s : State) : SameBut a s s :=
  fun b => .inr (b.same_refl s)

/-- Two frames in sequence. -/
theorem SameBut_trans {a b : List Block} {s t u : State} (h : SameBut a s t) (k : SameBut b t u) :
    SameBut (a ++ b) s u := by
  intro x
  rcases h x with h | h
  · exact .inl (List.mem_append_left _ h)
  · rcases k x with k | k
    · exact .inl (List.mem_append_right _ k)
    · exact .inr (Block.same_trans h k)

/-- A frame may name more blocks than it needs. -/
theorem SameBut_mono {a b : List Block} {s t : State} (h : SameBut a s t)
    (k : ∀ x ∈ a, x ∈ b) : SameBut b s t :=
  fun x => (h x).imp (k x) id

/-- Two frames in sequence, under one list that holds both. -/
theorem SameBut_seq {a b c : List Block} {s t u : State} (h : SameBut a s t) (k : SameBut b t u)
    (i : ∀ x ∈ a ++ b, x ∈ c := by decide) : SameBut c s u :=
  SameBut_mono (SameBut_trans h k) i

/-- A fold of an operation that keeps a frame. -/
theorem SameBut_foldl {α : Type} {a : List Block} {f : State → α → State}
    (h : ∀ s x, SameBut a s (f s x)) (l : List α) (s : State) : SameBut a s (l.foldl f s) := by
  induction l generalizing s with
  | nil => exact SameBut_refl a s
  | cons x l ih => exact SameBut_seq (h s x) (ih _) (by simp)

/-- A choice between two operations that keep a frame. -/
theorem SameBut_ite {a : List Block} {s t u : State} {c : Prop} [Decidable c]
    (h : SameBut a s t) (k : SameBut a s u) : SameBut a s (if c then t else u) := by
  split <;> assumption

/-! ## Changes of one block -/

theorem onSettings_outside (s : State) (f : Settings → Settings) :
    SameBut [.settings] s (s.onSettings f) := by intro b; cases b <;> simp [Block.same]

theorem onRoute_outside (s : State) (f : RouteCounter → RouteCounter) :
    SameBut [.route] s (s.onRoute f) := by intro b; cases b <;> simp [Block.same]

theorem onMotion_outside (s : State) (f : MotionGenerator → MotionGenerator) :
    SameBut [.motion] s (s.onMotion f) := by intro b; cases b <;> simp [Block.same]

theorem onDrive_outside (s : State) (f : DriveUnit → DriveUnit) :
    SameBut [.drive] s (s.onDrive f) := by intro b; cases b <;> simp [Block.same]

theorem onTurntable_outside (s : State) (f : Turntable → Turntable) :
    SameBut [.turntable] s (s.onTurntable f) := by intro b; cases b <;> simp [Block.same]

theorem onSeats_outside (s : State) (f : SeatMonitor → SeatMonitor) :
    SameBut [.seats] s (s.onSeats f) := by intro b; cases b <;> simp [Block.same]

theorem onPermit_outside (s : State) (f : Permit → Permit) :
    SameBut [.permit] s (s.onPermit f) := by intro b; cases b <;> simp [Block.same]

theorem onCues_outside (s : State) (f : CueEngine → CueEngine) :
    SameBut [.cues] s (s.onCues f) := by intro b; cases b <;> simp [Block.same]

theorem onEffects_outside (s : State) (f : EffectBank → EffectBank) :
    SameBut [.effects] s (s.onEffects f) := by intro b; cases b <;> simp [Block.same]

theorem onSound_outside (s : State) (f : SoundUnit → SoundUnit) :
    SameBut [.sound] s (s.onSound f) := by intro b; cases b <;> simp [Block.same]

theorem withPins_outside (s : State) (x : Pins) : SameBut [.lines] s (s.withPins x) := by
  intro b; cases b <;> simp [Block.same]

theorem spendFree_outside (s : State) (n : Nat) : SameBut [.model] s (s.spendFree n) := by
  intro b; cases b <;> simp [Block.same]

theorem setSeat_outside (s : State) (i : Fin 8) (x : Seat) :
    SameBut [.seats] s (s.setSeat i x) := onSeats_outside _ _

theorem setChannel_outside (s : State) (i : Fin 12) (x : Channel) :
    SameBut [.effects] s (s.setChannel i x) := onEffects_outside _ _

theorem setVoice_outside (s : State) (i : Fin 6) (x : Voice) :
    SameBut [.sound] s (s.setVoice i x) := onSound_outside _ _

theorem setSlot_outside (s : State) (i : Fin 64) (x : Option Cue) :
    SameBut [.cues] s (s.setSlot i x) := onCues_outside _ _

/-! ## Events, refusals, phase entries -/

@[simp] theorem framing_latch (x : PortState) (e : Event) : (x.latch e).framing = x.framing := rfl
@[simp] theorem mask_latch (x : PortState) (e : Event) : (x.latch e).mask = x.mask := rfl
@[simp] theorem watch_latch (x : PortState) (e : Event) : (x.latch e).watch = x.watch := rfl
@[simp] theorem lastRefusal_latch (x : PortState) (e : Event) :
    (x.latch e).lastRefusal = x.lastRefusal := rfl
@[simp] theorem events_latch (x : PortState) (e : Event) :
    (x.latch e).events = x.events ||| e.flag := rfl
@[simp] theorem attn_latch (x : PortState) (e : Event) :
    (x.latch e).attn = ((x.events ||| e.flag) &&& x.mask != 0) := rfl

theorem latch_outside (s : State) (e : Event) : SameBut [.records] s (s.latch e) := by
  intro b; cases b <;> simp [Block.same]

theorem latchEntry_outside (s : State) (ph : Phase) : SameBut [.records] s (s.latchEntry ph) := by
  intro b
  cases b <;> simp [Block.same]
  all_goals intro p; split <;> simp

theorem refuse_outside (s : State) (p : Port) (r : Reason) (code : Byte) :
    SameBut [.records] s (s.refuse p r code) := by
  intro b
  cases b <;> simp [Block.same]
  all_goals intro q; split <;> simp [PortState.framing, PortState.latch, PortState.rederiveAttn]

/-- A refusal is what R196 says of one, whatever the state. -/
theorem refuse_refusedOn (s : State) (p : Port) (r : Reason) (code : Byte) :
    RefusedOn p r code s (s.refuse p r code) := by
  refine ⟨?_, ?_, ?_, ?_, SameBut_mono (refuse_outside s p r code) (by decide)⟩
  · simp [PortState.latch, PortState.rederiveAttn]
  · simp [PortState.latch, PortState.rederiveAttn]
  · simp [PortState.latch, PortState.rederiveAttn]
  · intro q h
    simp [h]

theorem enterPhase_outside (s : State) (ph : Phase) :
    SameBut [.records, .motion] s (s.enterPhase ph) :=
  SameBut_ite (SameBut_refl _ _) (SameBut_seq (onMotion_outside _ _) (latchEntry_outside _ _))

/-! ## Drive Pulse Unit -/

theorem establish_outside (s : State) (i : Axis) : SameBut [.drive, .model] s (s.establish i) :=
  SameBut_ite (SameBut_refl _ _) (SameBut_seq (onDrive_outside _ _) (spendFree_outside _ _))

theorem endPlan_outside (s : State) (i : Axis) : SameBut [.drive, .model] s (s.endPlan i) :=
  SameBut_seq (establish_outside s i) (onDrive_outside _ _)

theorem cut_outside (s : State) : SameBut [.drive, .model] s s.cut :=
  SameBut_seq (SameBut_foldl establish_outside _ s) (onDrive_outside _ _)

theorem setEnable_outside (s : State) (on : Bool) : SameBut [.drive, .seats] s (s.setEnable on) :=
  SameBut_seq (onDrive_outside _ _) (onSeats_outside _ _)

theorem driveFall_outside (s : State) : SameBut [.drive, .seats, .model] s s.driveFall :=
  SameBut_seq (SameBut_foldl establish_outside _ s)
    (SameBut_seq (c := [.drive, .seats])
      (SameBut_ite (onDrive_outside _ _) (SameBut_refl _ _)) (setEnable_outside _ _))

theorem driveRise_outside (s : State) : SameBut [.drive, .seats] s s.driveRise :=
  SameBut_seq (onDrive_outside _ _) (setEnable_outside _ _)

theorem rederive_outside (s : State) : SameBut [.drive, .seats, .model] s s.rederive :=
  SameBut_ite (SameBut_refl _ _)
    (SameBut_ite (SameBut_mono (driveRise_outside s) (by decide)) (driveFall_outside s))

/-! ## Effect Timer Bank -/

theorem effectOff_outside (s : State) (c : Fin 12) : SameBut [.effects] s (s.effectOff c) :=
  SameBut_ite (setChannel_outside _ _ _) (SameBut_refl _ _)

theorem startPattern_outside (s : State) (c : Fin 12) (pat : Pattern) :
    SameBut [.effects] s (s.startPattern c pat) :=
  SameBut_seq (SameBut_ite (effectOff_outside _ _) (SameBut_refl _ _)) (setChannel_outside _ _ _)

theorem completeEffect_outside (s : State) (c : Fin 12) :
    SameBut [.records, .effects] s (s.completeEffect c) := by
  have h : ∀ x, SameBut [.records, .effects] s ((s.setChannel c x).latch .effectDone) :=
    fun x => SameBut_seq (setChannel_outside s c x) (latch_outside _ _)
  unfold State.completeEffect
  dsimp only
  split
  · exact h _
  · split
    · split
      · split
        · exact h _
        · exact SameBut_seq (h _) (startPattern_outside _ _ _)
      · exact h _
    · exact h _

theorem effectIntervalEnd_outside (s : State) (c : Fin 12) :
    SameBut [.records, .effects] s (s.effectIntervalEnd c) := by
  have h : ∀ x, SameBut [.records, .effects] s (s.setChannel c x) :=
    fun x => SameBut_mono (setChannel_outside s c x) (by decide)
  unfold State.effectIntervalEnd
  dsimp only
  split
  · split
    · exact completeEffect_outside s c
    · split
      · exact h _
      · exact completeEffect_outside s c
    all_goals first | with_reducible exact h _ | with_reducible exact SameBut_refl _ _
  · exact SameBut_refl _ _

theorem effectLockout_outside (s : State) (p : Fin 6) :
    SameBut [.records, .effects] s (s.effectLockout p) :=
  SameBut_ite (SameBut_refl _ _)
    (SameBut_seq (SameBut_seq (c := [.effects])
      (SameBut_seq (c := [.effects]) (setChannel_outside _ _ _) (setChannel_outside _ _ _))
      (onEffects_outside _ _)) (latch_outside _ _))

theorem effectShowStop_outside (s : State) : SameBut [.effects] s s.effectShowStop :=
  SameBut_foldl (fun _ _ => SameBut_ite (effectOff_outside _ _) (SameBut_refl _ _)) _ s

/-! ## Sound Unit -/

theorem abandonRefill_outside (s : State) (v : Fin 6) : SameBut [.sound] s (s.abandonRefill v) :=
  onSound_outside _ _

theorem endVoice_outside (s : State) (v : Fin 6) (why : EndReason) :
    SameBut [.records, .sound] s (s.endVoice v why) :=
  SameBut_seq (SameBut_seq (c := [.sound]) (setVoice_outside _ _ _) (abandonRefill_outside _ _))
    (latch_outside _ _)

theorem startVoice_outside (s : State) (v : Fin 6) (a : PlaySpec) :
    SameBut [.records, .sound] s (s.startVoice v a) :=
  SameBut_seq (SameBut_ite (SameBut_refl [.records, .sound] _) (endVoice_outside _ _ _))
    (setVoice_outside _ _ _)

theorem showStopVoice_outside (s : State) (v : Fin 6) :
    SameBut [.records, .sound] s (s.showStopVoice v) := by
  unfold State.showStopVoice
  dsimp only
  split
  · exact SameBut_mono (setVoice_outside _ _ _) (by decide)
  · exact SameBut_mono (setVoice_outside _ _ _) (by decide)
  · exact endVoice_outside _ _ _
  · exact SameBut_refl _ _

theorem announce_outside (s : State) (cause : ShowCause) :
    SameBut [.records, .sound] s (s.announce cause) := by
  have h : ∀ f, SameBut [.records, .sound] s (s.onSound f) :=
    fun f => SameBut_mono (onSound_outside s f) (by decide)
  exact SameBut_ite (h _) (SameBut_ite (h _) (SameBut_ite (h _)
    (SameBut_seq (startVoice_outside _ _ _) (onSound_outside _ _))))

theorem soundShowStop_outside (s : State) (cause : ShowCause) :
    SameBut [.records, .sound] s (s.soundShowStop cause) :=
  SameBut_seq (SameBut_foldl showStopVoice_outside _ s) (announce_outside _ _)

/-! ## The show stop, POST and the soft stop -/

theorem cueSuppress_outside (s : State) : SameBut [.cues] s s.cueSuppress := onCues_outside _ _

theorem showStop_outside (s : State) (cause : ShowCause) :
    SameBut [.records, .cues, .effects, .sound] s (s.showStop cause) :=
  SameBut_seq (SameBut_seq (c := [.records, .cues, .sound]) (cueSuppress_outside s)
    (soundShowStop_outside _ cause)) (effectShowStop_outside _)

theorem finishPost_outside (s : State) :
    SameBut [.records, .motion, .drive, .seats, .model] s s.finishPost :=
  SameBut_seq (SameBut_seq (c := [.records, .motion, .drive])
    (SameBut_seq (c := [.motion, .drive]) (onDrive_outside _ _) (onMotion_outside _ _))
    (enterPhase_outside _ _)) (rederive_outside _)

theorem enterPost_outside (s : State) :
    SameBut [.records, .motion, .drive, .seats, .model] s s.enterPost := by
  have h : SameBut [.records, .motion] s _ :=
    SameBut_seq (onMotion_outside s fun m =>
      { m with current := none, retreat := none, phaseTimer := some s.settings.postTime })
      (enterPhase_outside _ .post)
  exact SameBut_ite (SameBut_seq h (finishPost_outside _)) (SameBut_mono h (by decide))

theorem stopCompletes_outside (s : State) (cause : StopCause) :
    SameBut [.records, .motion, .drive, .seats, .model] s (s.stopCompletes cause) :=
  SameBut_seq (SameBut_seq (c := [.records, .motion]) (onMotion_outside _ _) (latch_outside _ _))
    (enterPost_outside _)

theorem softStop_outside (s : State) (cause : StopCause) :
    SameBut [.records, .motion, .drive, .seats, .model] s (s.softStop cause) := by
  have stops (f : MotionGenerator → MotionGenerator) :
      SameBut [.records, .motion, .drive, .seats, .model] s ((s.onMotion f).stopCompletes cause) :=
    SameBut_seq (onMotion_outside s f) (stopCompletes_outside (s.onMotion f) cause)
  unfold State.softStop
  split
  all_goals first
    | with_reducible exact SameBut_refl _ _
    | with_reducible exact stops _
    | with_reducible exact SameBut_seq (onMotion_outside _ _) (enterPhase_outside _ _)

/-! ## Turntable ends and the loss of the permit -/

theorem turnEnds_outside (s : State) (target : Nat) (mode : TurnMode) (o : TurnOutcome) :
    SameBut [.records, .turntable] s (s.turnEnds target mode o) :=
  SameBut_seq (onTurntable_outside _ _) (latch_outside _ _)

theorem homeEnds_outside (s : State) (o : HomeOutcome) :
    SameBut [.records, .turntable] s (s.homeEnds o) :=
  SameBut_seq (onTurntable_outside _ _) (latch_outside _ _)

theorem turntableStop_outside (s : State) :
    SameBut [.records, .drive, .turntable, .model] s s.turntableStop := by
  unfold State.turntableStop
  refine SameBut_ite (SameBut_refl _ _) ?_
  dsimp only
  split
  · split
    · exact SameBut_seq (endPlan_outside _ _) (turnEnds_outside _ _ _ _)
    · exact SameBut_seq (endPlan_outside _ _) (homeEnds_outside _ _)
  · exact SameBut_seq (endPlan_outside _ _) (onTurntable_outside _ _)

theorem homeLosesPermit_outside (s : State) :
    SameBut [.records, .drive, .turntable, .seats, .model] s s.homeLosesPermit :=
  SameBut_seq (SameBut_seq (c := [.records, .drive, .turntable, .model]) (endPlan_outside _ _)
    (homeEnds_outside _ _)) (rederive_outside _)

theorem turntablePermitLoss_outside (s : State) :
    SameBut [.records, .drive, .turntable, .seats, .model] s s.turntablePermitLoss := by
  unfold State.turntablePermitLoss
  split
  · exact SameBut_mono (onTurntable_outside _ _) (by decide)
  · split
    · exact SameBut_seq (turnEnds_outside _ _ _ _) (rederive_outside _)
    · exact SameBut_ite (SameBut_refl _ _) (homeLosesPermit_outside _)
  · exact SameBut_ite (SameBut_refl _ _) (homeLosesPermit_outside _)
  · exact SameBut_refl _ _

theorem motionPermitLoss_outside (s : State) :
    SameBut [.records, .motion, .drive, .seats, .cues, .effects, .sound, .model] s
      s.motionPermitLoss := by
  unfold State.motionPermitLoss
  split
  all_goals first
    | with_reducible exact SameBut_refl _ _
    | with_reducible exact SameBut_seq (softStop_outside _ _) (showStop_outside _ _)
    | with_reducible exact SameBut_mono (softStop_outside _ _) (by decide)

/-- A loss of the permit leaves route, settings, masks, lines and the ports' framing alone. -/
theorem permitLoss_outside (s : State) (cause : LossCause) :
    SameBut [.records, .motion, .drive, .turntable, .seats, .permit, .cues, .effects, .sound,
      .model] s (s.permitLoss cause) :=
  SameBut_ite (SameBut_refl _ _)
    (SameBut_seq (SameBut_seq
      (c := [.records, .motion, .drive, .seats, .permit, .cues, .effects, .sound, .model])
      (SameBut_seq (c := [.records, .permit]) (onPermit_outside _ _) (latch_outside _ _))
      (motionPermitLoss_outside _)) (turntablePermitLoss_outside _))

/-! ## Hard stops and faults -/

theorem stopAll_outside (s : State) :
    SameBut [.records, .motion, .drive, .turntable, .model] s s.stopAll := by
  unfold State.stopAll
  exact SameBut_seq (SameBut_seq (c := [.records, .drive, .turntable, .model]) (cut_outside s)
    (turntableStop_outside s.cut)) (onMotion_outside _ _)

theorem hardStop_outside (s : State) (cause : StopCause) :
    SameBut [.records, .motion, .drive, .turntable, .seats, .cues, .effects, .sound, .model] s
      (s.hardStop cause) := by
  have h : SameBut [.records, .motion, .drive, .turntable, .seats, .model] s
      ((((s.stopAll).enterPhase .idle).onMotion fun m =>
        { m with lastStop := some ⟨.hard, cause⟩ }).latch .stopped).rederive :=
    SameBut_seq (SameBut_seq (c := [.records, .motion, .drive, .turntable, .model])
      (SameBut_seq (c := [.records, .motion, .drive, .turntable, .model])
        (SameBut_seq (c := [.records, .motion, .drive, .turntable, .model]) (stopAll_outside s)
          (enterPhase_outside _ _)) (onMotion_outside _ _)) (latch_outside _ _))
      (rederive_outside _)
  exact SameBut_ite (SameBut_seq h (showStop_outside _ _)) (SameBut_mono h (by decide))

theorem firstFault_outside (s : State) (cause : FaultCause) :
    SameBut [.records, .motion, .drive, .turntable, .seats, .permit, .cues, .effects, .sound,
      .model] s (s.firstFault cause) :=
  SameBut_seq (SameBut_seq
    (c := [.records, .motion, .drive, .turntable, .seats, .permit, .cues, .effects, .sound, .model])
    (SameBut_seq (c := [.records, .motion, .drive, .turntable, .seats, .model])
      (SameBut_seq (c := [.records, .motion, .drive, .turntable, .model])
        (SameBut_seq (c := [.records, .motion, .drive, .turntable, .model])
          (SameBut_seq (c := [.records, .motion, .drive, .turntable, .model]) (stopAll_outside s)
            (onMotion_outside _ _)) (enterPhase_outside _ _)) (latch_outside _ _))
      (rederive_outside _)) (permitLoss_outside _ _)) (showStop_outside _ _)

theorem secondFault_outside (s : State) :
    SameBut [.records, .motion, .drive, .turntable, .seats, .model] s s.secondFault :=
  SameBut_seq (SameBut_seq (c := [.records, .motion, .drive, .turntable, .model])
    (SameBut_seq (c := [.motion, .drive, .model]) (onMotion_outside _ _) (cut_outside _))
    (turntableStop_outside _)) (rederive_outside _)

/-- A fault report leaves route, settings, masks, lines and the ports' framing alone. -/
theorem report_outside (s : State) (cause : FaultCause) :
    SameBut [.records, .motion, .drive, .turntable, .seats, .permit, .cues, .effects, .sound,
      .model] s (s.report cause) :=
  SameBut_ite (SameBut_mono (secondFault_outside s) (by decide)) (firstFault_outside s cause)

/-! ## The encoder conditions -/

/-- What a test of encoders does to the route: the conditions newly due are latched. -/
theorem testEncoders_route (s : State) (axes : List Axis) :
    (s.testEncoders axes).route = { s.route with
      conditions := (s.overErrorLimit axes).foldl (fun c i => c.set i true) s.route.conditions } := by
  unfold State.testEncoders
  dsimp only
  split
  · have h := SameBut_foldl (f := fun t i => t.report (encoderCause i))
      (fun t i => report_outside t (encoderCause i)) (s.overErrorLimit axes)
      (s.onRoute fun r => { r with
        conditions := (s.overErrorLimit axes).foldl (fun c i => c.set i true) r.conditions }) .route
    simpa [Block.same] using h
  · rfl

/-- A test of encoders that finds none newly due changes nothing. -/
theorem testEncoders_quiet {s : State} {axes : List Axis} (h : s.overErrorLimit axes = []) :
    s.testEncoders axes = s := by
  unfold State.testEncoders
  rw [h]
  exact ite_self _

/-- A test of encoders leaves settings, masks, lines and the ports' framing alone. -/
theorem testEncoders_outside (s : State) (axes : List Axis) :
    SameBut [.records, .route, .motion, .drive, .turntable, .seats, .permit, .cues, .effects, .sound,
      .model] s (s.testEncoders axes) :=
  have h := onRoute_outside s fun r => { r with
    conditions := (s.overErrorLimit axes).foldl (fun c i => c.set i true) r.conditions }
  SameBut_ite
    (SameBut_seq h (SameBut_foldl (fun t i => report_outside t (encoderCause i)) _ _))
    (SameBut_mono h (by decide))

/-! ## Seats -/

theorem seatUpdate_outside (s : State) (i : Fin 8) (y : Seat) :
    SameBut [.records, .motion, .drive, .turntable, .seats, .permit, .cues, .effects, .sound,
      .model] s (s.seatUpdate i y) := by
  have h : SameBut [.records, .seats] s ((s.setSeat i
      { y with changes := ((s.seat i).changes + 1) % 256 }).latch .seatChange) :=
    SameBut_seq (setSeat_outside _ _ _) (latch_outside _ _)
  have k : ∀ t, SameBut [.records, .seats] s t →
      SameBut [.records, .seats] s (t.latch .seatFault) :=
    fun t ht => SameBut_seq ht (latch_outside _ _)
  refine SameBut_ite (SameBut_mono (setSeat_outside _ _ _) (by decide)) ?_
  refine SameBut_ite ?_ ?_
  · exact SameBut_seq (SameBut_ite (k _ h) h) (permitLoss_outside _ _)
  · exact SameBut_mono (SameBut_ite (k _ h) h) (by decide)

/-! ## Cues -/

theorem logCue_outside (s : State) (i : Fin 64) (o : CueOutcome) (n : Option Nat) :
    SameBut [.cues] s (s.logCue i o n) := onCues_outside _ _

theorem miss_outside (s : State) (i : Fin 64) : SameBut [.records, .cues] s (s.miss i) := by
  unfold State.miss
  split
  · exact SameBut_refl _ _
  · exact SameBut_seq (SameBut_seq (c := [.cues]) (setSlot_outside _ _ _) (logCue_outside _ _ _ _))
      (latch_outside _ _)

/-- The actions of a cue are dispatched one after the other, each with its index. -/
theorem dispatchAll_eq_foldl (i : Fin 64) (n : Nat) (l : List CueAction) (s : State) :
    s.dispatchAll i n l = (l.zipIdx n).foldl (fun w x => w.dispatch i x.2 x.1) s := by
  induction l generalizing n s with
  | nil => rfl
  | cons a l ih => exact ih (n + 1) _

/-! ## Output lines -/

/-- A line under RESET, and after it. -/
@[simp] theorem line_inReset {s : State} (held live : Bool) (h : s.inReset = true) :
    s.line held live = held := by simp [State.line, h]
@[simp] theorem line_released {s : State} (held live : Bool) (h : s.inReset = false) :
    s.line held live = live := by simp [State.line, h]

end Sys2Proof.Machine
end

