-- ==== Sys2Proof/Laws/Exec.lean ====
section
/-! SUPPORT. What `exec` calls for each row, and what a command and an event have in common, said once. -/

namespace Sys2Proof.Machine

/-! ## Commands and events -/

/-- A command outside RESET: the framing of its port, its effect, and the next slot. -/
theorem commandTaken_next {p : Port} {f : State → State} {s : State} (h : s.inReset = false) :
    commandTaken p f s
      = .next ((f (s.onPort p (·.commandFramed))).onPort p (·.slotBegun)) := by
  simp [commandTaken, h]

/-- An event outside RESET. -/
theorem eventTaken_next {f : State → State} {s : State} (h : s.inReset = false) :
    eventTaken f s = .next (f s) := by simp [eventTaken, h]

/-- Under RESET a command does nothing. -/
theorem commandTaken_reset {p : Port} {f : State → State} {s : State} (h : s.inReset = true) :
    commandTaken p f s = .next s := by simp [commandTaken, h]

/-- Under RESET an event does nothing. -/
theorem eventTaken_reset {f : State → State} {s : State} (h : s.inReset = true) :
    eventTaken f s = .next s := by simp [eventTaken, h]

@[simp] theorem record_commandFramed (x : PortState) : x.commandFramed.record = x.record := by
  cases x with | mk f => cases f <;> rfl

@[simp] theorem record_slotBegun (x : PortState) : x.slotBegun.record = x.record := by
  unfold PortState.slotBegun; split <;> [rfl; rfl; (split <;> rfl)]

@[simp] theorem mask_commandFramed (x : PortState) : x.commandFramed.mask = x.mask := by
  cases x with | mk f => cases f <;> rfl

@[simp] theorem mask_slotBegun (x : PortState) : x.slotBegun.mask = x.mask := by
  unfold PortState.slotBegun; split <;> [rfl; rfl; (split <;> rfl)]

@[simp] theorem watch_commandFramed (x : PortState) : x.commandFramed.watch = x.watch := by
  cases x with | mk f => cases f <;> rfl

@[simp] theorem watch_slotBegun (x : PortState) : x.slotBegun.watch = x.watch := by
  unfold PortState.slotBegun; split <;> [rfl; rfl; (split <;> rfl)]

/-- What the bytes of a port move leaves everything but the framing alone. -/
theorem onPort_framing_outside (s : State) (p : Port) (f : PortState → PortState)
    (r : ∀ x, (f x).record = x.record) (m : ∀ x, (f x).mask = x.mask)
    (w : ∀ x, (f x).watch = x.watch) : SameBut [.framing] s (s.onPort p f) := by
  intro b
  cases b <;> simp [Block.same]
  · intro q; split <;> simp [r]
  · intro q; split <;> simp [m, w]

/-- The frame of a command: what its effect needs, and the framing. -/
theorem commandTaken_outside {a : List Block} {p : Port} {f : State → State} {s t : State}
    (h : ∀ u, SameBut a u (f u)) (k : commandTaken p f s = .next t) :
    SameBut (.framing :: a) s t := by
  cases k
  refine SameBut_ite (SameBut_refl _ _) ?_
  have i := onPort_framing_outside s p (·.commandFramed) (by simp) (by simp) (by simp)
  have j := onPort_framing_outside (f (s.onPort p (·.commandFramed))) p (·.slotBegun) (by simp)
    (by simp) (by simp)
  exact SameBut_mono (SameBut_trans (SameBut_trans i (h _)) j) (by intro x; simp; tauto)

/-- The frame of an event. -/
theorem eventTaken_outside {a : List Block} {f : State → State} {s t : State}
    (h : SameBut a s (f s)) (k : eventTaken f s = .next t) : SameBut a s t := by
  cases k
  exact SameBut_ite (SameBut_refl _ _) h

/-- A judged command answers what its judgement gives, or the refusal. -/
theorem judged_ok {p : Port} {code : Byte} {j : State → Except Reason State} {s t : State}
    (h : j s = .ok t) : s.judged p code j = t := by simp [State.judged, h]

theorem judged_error {p : Port} {code : Byte} {j : State → Except Reason State} {s : State}
    {r : Reason} (h : j s = .error r) : s.judged p code j = s.refuse p r code := by
  simp [State.judged, h]

/-- The rights test passed, and failed. -/
theorem allowed_yes {ports : List Port} {p : Port} {code : Byte} {f : State → State} {s : State}
    (h : p ∈ ports) : s.allowed ports p code f = f s := by simp [State.allowed, h]

theorem allowed_no {ports : List Port} {p : Port} {code : Byte} {f : State → State} {s : State}
    (h : p ∉ ports) : s.allowed ports p code f = s.refuse p .rights code := by
  simp [State.allowed, h]

/-! ## One lemma per row -/

@[simp] theorem exec_powerOnReset (s : State) :
    exec (.powerOnReset) s = execPowerOnReset s := rfl

@[simp] theorem exec_frameStart (p : Port) (s : State) :
    exec (.frameStart p) s = execFrameStart p s := rfl

@[simp] theorem exec_csRise (p : Port) (s : State) :
    exec (.csRise p) s = execCsRise p s := rfl

@[simp] theorem exec_unknownCode (p : Port) (code : Byte) (s : State) :
    exec (.unknownCode p code) s = execUnknownCode p code s := rfl

@[simp] theorem exec_nop (p : Port) (s : State) :
    exec (.nop p) s = execNop p s := rfl

@[simp] theorem exec_readStatus (p : Port) (s : State) :
    exec (.readStatus p) s = execReadStatus p s := rfl

@[simp] theorem exec_readSetting (p : Port) (number : Byte) (s : State) :
    exec (.readSetting p number) s = execReadSetting p number s := rfl

@[simp] theorem exec_writeSetting (p : Port) (number : Byte) (value : BitVec 32) (s : State) :
    exec (.writeSetting p number value) s = execWriteSetting p number value s := rfl

@[simp] theorem exec_writeEventMask (p : Port) (which : Port) (value : BitVec 32) (s : State) :
    exec (.writeEventMask p which value) s = execWriteEventMask p which value s := rfl

@[simp] theorem exec_writePhaseWatchSet (p : Port) (which : Port) (value : BitVec 32) (s : State) :
    exec (.writePhaseWatchSet p which value) s = execWritePhaseWatchSet p which value s := rfl

@[simp] theorem exec_writeEncoderErrorLimit (p : Port) (value : BitVec 32) (s : State) :
    exec (.writeEncoderErrorLimit p value) s = execWriteEncoderErrorLimit p value s := rfl

@[simp] theorem exec_writeRampTable (p : Port) (entry : RampEntry) (value : BitVec 32) (s : State) :
    exec (.writeRampTable p entry value) s = execWriteRampTable p entry value s := rfl

@[simp] theorem exec_writeTurntableCountsPerRevolution (p : Port) (value : BitVec 32) (s : State) :
    exec (.writeTurntableCountsPerRevolution p value) s = execWriteTurntableCountsPerRevolution p value s := rfl

@[simp] theorem exec_writeTurntableStep (p : Port) (k : Fin 4) (value : BitVec 32) (s : State) :
    exec (.writeTurntableStep p k value) s = execWriteTurntableStep p k value s := rfl

@[simp] theorem exec_writeFittedSeatCount (p : Port) (value : BitVec 32) (s : State) :
    exec (.writeFittedSeatCount p value) s = execWriteFittedSeatCount p value s := rfl

@[simp] theorem exec_writeExclusivePairMask (p : Port) (value : BitVec 32) (s : State) :
    exec (.writeExclusivePairMask p value) s = execWriteExclusivePairMask p value s := rfl

@[simp] theorem exec_resetSectionMotion (p : Port) (s : State) :
    exec (.resetSectionMotion p) s = execResetSectionMotion p s := rfl

@[simp] theorem exec_resetSectionShow (p : Port) (s : State) :
    exec (.resetSectionShow p) s = execResetSectionShow p s := rfl

@[simp] theorem exec_loadMarker (p : Port) (id : Byte) (position : BitVec 32) (tolerance : BitVec 16) (kind : Byte) (s : State) :
    exec (.loadMarker p id position tolerance kind) s = execLoadMarker p id position tolerance kind s := rfl

@[simp] theorem exec_deleteMarker (p : Port) (id : Byte) (s : State) :
    exec (.deleteMarker p id) s = execDeleteMarker p id s := rfl

@[simp] theorem exec_clearMarkers (p : Port) (s : State) :
    exec (.clearMarkers p) s = execClearMarkers p s := rfl

@[simp] theorem exec_zeroRoute (p : Port) (s : State) :
    exec (.zeroRoute p) s = execZeroRoute p s := rfl

@[simp] theorem exec_readRoute (p : Port) (s : State) :
    exec (.readRoute p) s = execReadRoute p s := rfl

@[simp] theorem exec_readMarker (p : Port) (id : Byte) (s : State) :
    exec (.readMarker p id) s = execReadMarker p id s := rfl

@[simp] theorem exec_readMarkerList (p : Port) (s : State) :
    exec (.readMarkerList p) s = execReadMarkerList p s := rfl

@[simp] theorem exec_encoderTransition (axis : Axis) (a b : Bool) (s : State) :
    exec (.encoderTransition axis a b) s = execEncoderTransition axis a b s := rfl

@[simp] theorem exec_turntableIndex (s : State) :
    exec (.turntableIndex) s = execTurntableIndex s := rfl

@[simp] theorem exec_markerByteReceived (byte : Byte) (stopHigh : Bool) (s : State) :
    exec (.markerByteReceived byte stopHigh) s = execMarkerByteReceived byte stopHigh s := rfl

@[simp] theorem exec_markerGapExpiry (s : State) :
    exec (.markerGapExpiry) s = execMarkerGapExpiry s := rfl

@[simp] theorem exec_barCountEdge (seat : Fin 8) (lowering : Bool) (s : State) :
    exec (.barCountEdge seat lowering) s = execBarCountEdge seat lowering s := rfl

@[simp] theorem exec_motionTick (pins : Pins) (ends : Ends) (s : State) :
    exec (.motionTick pins ends) s = execMotionTick pins ends s := rfl

@[simp] theorem exec_legEnd (s : State) :
    exec (.legEnd) s = execLegEnd s := rfl

@[simp] theorem exec_retreatAtRest (s : State) :
    exec (.retreatAtRest) s = execRetreatAtRest s := rfl

@[simp] theorem exec_preEnd (s : State) :
    exec (.preEnd) s = execPreEnd s := rfl

@[simp] theorem exec_dwellEnd (s : State) :
    exec (.dwellEnd) s = execDwellEnd s := rfl

@[simp] theorem exec_postEnd (s : State) :
    exec (.postEnd) s = execPostEnd s := rfl

@[simp] theorem exec_sceneTimerExpiry (s : State) :
    exec (.sceneTimerExpiry) s = execSceneTimerExpiry s := rfl

@[simp] theorem exec_ttPreEnd (s : State) :
    exec (.ttPreEnd) s = execTtPreEnd s := rfl

@[simp] theorem exec_turnEnd (s : State) :
    exec (.turnEnd) s = execTurnEnd s := rfl

@[simp] theorem exec_turnRetreatAtRest (s : State) :
    exec (.turnRetreatAtRest) s = execTurnRetreatAtRest s := rfl

@[simp] theorem exec_homingLimit (s : State) :
    exec (.homingLimit) s = execHomingLimit s := rfl

@[simp] theorem exec_pairFilterAccept (seat : Fin 8) (s : State) :
    exec (.pairFilterAccept seat) s = execPairFilterAccept seat s := rfl

@[simp] theorem exec_occupancyChange (seat : Fin 8) (s : State) :
    exec (.occupancyChange seat) s = execOccupancyChange seat s := rfl

@[simp] theorem exec_pullInEnd (seat : Fin 8) (s : State) :
    exec (.pullInEnd seat) s = execPullInEnd seat s := rfl

@[simp] theorem exec_releaseTimeout (seat : Fin 8) (s : State) :
    exec (.releaseTimeout seat) s = execReleaseTimeout seat s := rfl

@[simp] theorem exec_concurTimeout (s : State) :
    exec (.concurTimeout) s = execConcurTimeout s := rfl

@[simp] theorem exec_consentExpired (s : State) :
    exec (.consentExpired) s = execConsentExpired s := rfl

@[simp] theorem exec_effectTimeBaseTick (pins : Pins) (ends : Ends) (s : State) :
    exec (.effectTimeBaseTick pins ends) s = execEffectTimeBaseTick pins ends s := rfl

@[simp] theorem exec_effectIntervalEnd (channel : Fin 12) (s : State) :
    exec (.effectIntervalEnd channel) s = execEffectIntervalEnd channel s := rfl

@[simp] theorem exec_effectLockout (pair : Fin 6) (s : State) :
    exec (.effectLockout pair) s = execEffectLockout pair s := rfl

@[simp] theorem exec_audioSamplePeriod (ends : Ends) (s : State) :
    exec (.audioSamplePeriod ends) s = execAudioSamplePeriod ends s := rfl

@[simp] theorem exec_clipPassEnd (voice : Fin 6) (s : State) :
    exec (.clipPassEnd voice) s = execClipPassEnd voice s := rfl

@[simp] theorem exec_fadeEnd (voice : Fin 6) (s : State) :
    exec (.fadeEnd voice) s = execFadeEnd voice s := rfl

@[simp] theorem exec_flashGrant (s : State) :
    exec (.flashGrant) s = execFlashGrant s := rfl

@[simp] theorem exec_refillSampleArrives (first second : Byte) (s : State) :
    exec (.refillSampleArrives first second) s = execRefillSampleArrives first second s := rfl

@[simp] theorem exec_refillDone (s : State) :
    exec (.refillDone) s = execRefillDone s := rfl

@[simp] theorem exec_mountReadDone (bytes : Vector Byte 12) (s : State) :
    exec (.mountReadDone bytes) s = execMountReadDone bytes s := rfl

@[simp] theorem exec_appendLeg (p : Port) (leg : LegBytes) (s : State) :
    exec (.appendLeg p leg) s = execAppendLeg p leg s := rfl

@[simp] theorem exec_appendSeekLeg (p : Port) (leg : LegBytes) (marker : Byte) (action : Byte) (s : State) :
    exec (.appendSeekLeg p leg marker action) s = execAppendSeekLeg p leg marker action s := rfl

@[simp] theorem exec_flushLegs (p : Port) (s : State) :
    exec (.flushLegs p) s = execFlushLegs p s := rfl

@[simp] theorem exec_go (p : Port) (s : State) :
    exec (.go p) s = execGo p s := rfl

@[simp] theorem exec_hold (p : Port) (s : State) :
    exec (.hold p) s = execHold p s := rfl

@[simp] theorem exec_releaseHold (p : Port) (reason : Byte) (s : State) :
    exec (.releaseHold p reason) s = execReleaseHold p reason s := rfl

@[simp] theorem exec_softStop (p : Port) (s : State) :
    exec (.softStop p) s = execSoftStop p s := rfl

@[simp] theorem exec_hardStop (p : Port) (s : State) :
    exec (.hardStop p) s = execHardStop p s := rfl

@[simp] theorem exec_clearMotionFault (p : Port) (s : State) :
    exec (.clearMotionFault p) s = execClearMotionFault p s := rfl

@[simp] theorem exec_readMotion (p : Port) (s : State) :
    exec (.readMotion p) s = execReadMotion p s := rfl

@[simp] theorem exec_readLegs (p : Port) (s : State) :
    exec (.readLegs p) s = execReadLegs p s := rfl

@[simp] theorem exec_readDrive (p : Port) (pins : Pins) (s : State) :
    exec (.readDrive p pins) s = execReadDrive p pins s := rfl

@[simp] theorem exec_turnTo (p : Port) (target : BitVec 16) (mode : Byte) (s : State) :
    exec (.turnTo p target mode) s = execTurnTo p target mode s := rfl

@[simp] theorem exec_homeTurntable (p : Port) (s : State) :
    exec (.homeTurntable p) s = execHomeTurntable p s := rfl

@[simp] theorem exec_readTurntable (p : Port) (s : State) :
    exec (.readTurntable p) s = execReadTurntable p s := rfl

@[simp] theorem exec_releaseBars (p : Port) (mask : BitVec 8) (s : State) :
    exec (.releaseBars p mask) s = execReleaseBars p mask s := rfl

@[simp] theorem exec_clearSeatFault (p : Port) (mask : BitVec 8) (s : State) :
    exec (.clearSeatFault p mask) s = execClearSeatFault p mask s := rfl

@[simp] theorem exec_readSeats (p : Port) (pins : Pins) (s : State) :
    exec (.readSeats p pins) s = execReadSeats p pins s := rfl

@[simp] theorem exec_beginCheck (p : Port) (s : State) :
    exec (.beginCheck p) s = execBeginCheck p s := rfl

@[simp] theorem exec_concur (p : Port) (generation : BitVec 16) (mask : BitVec 8) (s : State) :
    exec (.concur p generation mask) s = execConcur p generation mask s := rfl

@[simp] theorem exec_renewConsent (p : Port) (generation : BitVec 16) (s : State) :
    exec (.renewConsent p generation) s = execRenewConsent p generation s := rfl

@[simp] theorem exec_revokeConsent (p : Port) (s : State) :
    exec (.revokeConsent p) s = execRevokeConsent p s := rfl

@[simp] theorem exec_readPermit (p : Port) (s : State) :
    exec (.readPermit p) s = execReadPermit p s := rfl

@[simp] theorem exec_loadCue (p : Port) (cue : CueBytes) (s : State) :
    exec (.loadCue p cue) s = execLoadCue p cue s := rfl

@[simp] theorem exec_deleteCue (p : Port) (slot : Byte) (s : State) :
    exec (.deleteCue p slot) s = execDeleteCue p slot s := rfl

@[simp] theorem exec_armCues (p : Port) (s : State) :
    exec (.armCues p) s = execArmCues p s := rfl

@[simp] theorem exec_disarmCues (p : Port) (s : State) :
    exec (.disarmCues p) s = execDisarmCues p s := rfl

@[simp] theorem exec_fireCue (p : Port) (slot : Byte) (s : State) :
    exec (.fireCue p slot) s = execFireCue p slot s := rfl

@[simp] theorem exec_readCueEngine (p : Port) (s : State) :
    exec (.readCueEngine p) s = execReadCueEngine p s := rfl

@[simp] theorem exec_readCue (p : Port) (slot : Byte) (s : State) :
    exec (.readCue p slot) s = execReadCue p slot s := rfl

@[simp] theorem exec_readCueLog (p : Port) (s : State) :
    exec (.readCueLog p) s = execReadCueLog p s := rfl

@[simp] theorem exec_setEffectStart (p : Port) (channel : Byte) (pattern : PatternBytes) (s : State) :
    exec (.setEffectStart p channel pattern) s = execSetEffectStart p channel pattern s := rfl

@[simp] theorem exec_setEffectArm (p : Port) (channel : Byte) (pattern : PatternBytes) (s : State) :
    exec (.setEffectArm p channel pattern) s = execSetEffectArm p channel pattern s := rfl

@[simp] theorem exec_setEffectOff (p : Port) (channel : Byte) (pattern : PatternBytes) (s : State) :
    exec (.setEffectOff p channel pattern) s = execSetEffectOff p channel pattern s := rfl

@[simp] theorem exec_clearEffectLockout (p : Port) (pair : Byte) (s : State) :
    exec (.clearEffectLockout p pair) s = execClearEffectLockout p pair s := rfl

@[simp] theorem exec_readEffects (p : Port) (pins : Pins) (s : State) :
    exec (.readEffects p pins) s = execReadEffects p pins s := rfl

@[simp] theorem exec_mountClips (p : Port) (s : State) :
    exec (.mountClips p) s = execMountClips p s := rfl

@[simp] theorem exec_play (p : Port) (args : PlayBytes) (s : State) :
    exec (.play p args) s = execPlay p args s := rfl

@[simp] theorem exec_stopVoice (p : Port) (voice : Byte) (step : Byte) (s : State) :
    exec (.stopVoice p voice step) s = execStopVoice p voice step s := rfl

@[simp] theorem exec_setVoiceGain (p : Port) (voice : Byte) (target : Byte) (step : Byte) (s : State) :
    exec (.setVoiceGain p voice target step) s = execSetVoiceGain p voice target step s := rfl

@[simp] theorem exec_setZoneLevel (p : Port) (zone : Byte) (target : Byte) (step : Byte) (s : State) :
    exec (.setZoneLevel p zone target step) s = execSetZoneLevel p zone target step s := rfl

@[simp] theorem exec_readSound (p : Port) (s : State) :
    exec (.readSound p) s = execReadSound p s := rfl

@[simp] theorem exec_readClipTable (p : Port) (s : State) :
    exec (.readClipTable p) s = execReadClipTable p s := rfl

@[simp] theorem exec_byteSlot (p : Port) (sdi : Byte) (pins : Pins) (s : State) :
    exec (.byteSlot p sdi pins) s = execByteSlot p sdi pins s := rfl

@[simp] theorem exec_resetRelease (csLow : PerPort Bool) (pairs : PerAxis (Bool × Bool)) (s : State) :
    exec (.resetRelease csLow pairs) s = execResetRelease csLow pairs s := rfl

@[simp] theorem exec_startBit (s : State) :
    exec (.startBit) s = execStartBit s := rfl

end Sys2Proof.Machine
end

