-- ==== Sys2Proof/Laws/Reads.lean ====
section
/-! SUPPORT. The fields of the responses as the reads build them are the encodings of R207 that claims
use. -/

namespace Sys2Proof.Machine

/-- The bytes of an integer are those of its quotient by 256, then its lowest. -/
theorem bytesOf_succ (n : Nat) (x : Int) :
    bytesOf (n + 1) x = bytesOf n (x / 256) ++ [BitVec.ofInt 8 x] := by
  simp only [bytesOf, List.range_succ_eq_map, List.reverse_cons, List.map_append, List.map_reverse,
    List.map_map, List.map_cons, List.map_nil, pow_zero, Int.ediv_one]
  congr 3
  funext k
  simp only [Function.comp, Nat.succ_eq_add_one]
  rw [pow_succ', Int.ediv_ediv_of_nonneg (by norm_num : (0:Int) ≤ 256)]

/-- A number as the reads send it. -/
theorem numBytes_eq_bytesOf (n x : Nat) : numBytes n x = bytesOf n x := by
  induction n generalizing x with
  | zero => rfl
  | succ n ih => rw [numBytes, bytesOf_succ, ih]; congr 1

/-- Only the residue modulo 256^n reaches `n` bytes. -/
theorem bytesOf_emod (n : Nat) (x : Int) : bytesOf n (x % 256 ^ n) = bytesOf n x := by
  induction n generalizing x with
  | zero => rfl
  | succ n ih =>
    have hq : x % 256 ^ (n + 1) / 256 = x / 256 % 256 ^ n := by
      rw [pow_succ', Int.emod_def, Int.emod_def, Int.ediv_ediv_of_nonneg (by norm_num),
        sub_eq_add_neg, mul_assoc, ← mul_neg, Int.add_mul_ediv_left _ _ (by norm_num),
        ← sub_eq_add_neg]
    have hb : BitVec.ofInt 8 (x % 256 ^ (n + 1)) = BitVec.ofInt 8 x := by
      apply BitVec.eq_of_toNat_eq
      have h : (256 : Int) ∣ 256 ^ (n + 1) := Dvd.intro_left (256 ^ n) rfl
      simp [BitVec.toNat_ofInt, Int.emod_emod_of_dvd _ h]
    rw [bytesOf_succ, bytesOf_succ, hq, ih, hb]

/-- An integer as the reads send it. -/
theorem beBytes_eq_bytesOf (n : Nat) (x : Int) : beBytes n x = bytesOf n x := by
  have h : 0 ≤ x.emod (256 ^ n) := Int.emod_nonneg _ (by positivity)
  rw [beBytes, numBytes_eq_bytesOf, Int.toNat_of_nonneg h]
  exact bytesOf_emod n x

theorem bytesOf_zero (n : Nat) : bytesOf n 0 = List.replicate n 0 := by
  simp [bytesOf]

theorem flagByte_eq_yesNo (b : Bool) : flagByte b = yesNo b := by cases b <;> rfl

theorem enumByte_eq_bytesOf (k : Nat) : enumByte k = bytesOf 1 k := by
  simp [enumByte, bytesOf]

/-- An optional field as the reads send it. -/
theorem optBytes_eq_presentOf {α : Type} (n : Nat) (f g : α → List Byte) (h : ∀ x, f x = g x)
    (x : Option α) : optBytes n f x = presentOf n g x := by
  cases x with
  | none => simp [optBytes, presentOf, bytesOf_zero, List.replicate_succ]
  | some v => simp [optBytes, presentOf, bytesOf, h]

/-- A list as the reads send it. -/
theorem listBytes_eq_countedOf {α : Type} (f g : α → List Byte) (h : ∀ x, f x = g x)
    (xs : List α) : listBytes f xs = countedOf g xs := by
  simp [listBytes, countedOf, bytesOf, List.flatMap, funext h]

/-- The powers of two of a list of flags, from bit `k` on. -/
theorem maskOf_eq_sum (flags : List Bool) (k : Nat) :
    2 ^ k * (maskOf flags : Int)
      = ((flags.zipIdx k).map fun x => if x.1 = true then (2 : Int) ^ x.2 else 0).sum := by
  induction flags generalizing k with
  | nil => simp [maskOf]
  | cons b bs ih =>
    rw [List.zipIdx_cons, List.map_cons, List.sum_cons, ← ih (k + 1)]
    cases b <;> simp [maskOf] <;> ring

/-- A set of flags as the reads send it. -/
theorem maskOf_eq_maskBytes (n : Nat) (flags : List Bool) :
    numBytes n (maskOf flags) = maskBytes n flags := by
  rw [numBytes_eq_bytesOf, maskBytes, ← maskOf_eq_sum flags 0, pow_zero, one_mul]

theorem Leg.bytes_eq_fields (l : Leg) : l.bytes = l.fields := by
  rcases l with ⟨d, _, _, _, _, _, _, _ | ⟨_, a⟩⟩
  all_goals
    simp only [Leg.bytes, Leg.fields, numBytes_eq_bytesOf, beBytes_eq_bytesOf, flagByte_eq_yesNo,
      enumByte_eq_bytesOf]
    cases d
  all_goals first | rfl | (cases a <;> rfl)

theorem Pattern.bytes_eq_fields (x : Pattern) : x.bytes = x.fields := by
  rw [Pattern.bytes, Pattern.fields, optBytes_eq_presentOf 1 _ _ (numBytes_eq_bytesOf 1)]
  simp only [numBytes_eq_bytesOf, enumByte_eq_bytesOf]
  rcases x with ⟨m, _, _, _, _⟩
  cases m <;> rfl

end Sys2Proof.Machine
end

