-- ==== Sys2Proof/Laws/Tables.lean ====
section
/-! SUPPORT. What the arithmetic and the ordered tables of the blocks can do: advance, split, descent,
approach, and the insertions by id. -/

namespace Sys2Proof.Machine

/-! ## Advance, split, descent (R34, R44, R45) -/

/-- An advance never exceeds the remaining distance. -/
theorem advanceOf_le (acc rate rem : Nat) : (advanceOf acc rate rem).1 ≤ rem := by
  unfold advanceOf; dsimp only; split <;> simp_all

/-- The path accumulator stays below 1000. -/
theorem advanceOf_fraction (acc rate rem : Nat) : (advanceOf acc rate rem).2 < 1000 := by
  unfold advanceOf; dsimp only; split
  · exact Nat.mod_lt _ (by decide)
  · exact Nat.zero_lt_succ _

/-- The split loses nothing: share and residual are the quotient and the remainder of R45. -/
theorem splitOf_exact (adv : Nat) (steer : Int) (res : Nat) :
    2048 * (splitOf adv steer res).1 + (splitOf adv steer res).2
      = adv * (1024 + steer).toNat + res := by
  simp [splitOf]; omega

/-- The split residual stays below 2048. -/
theorem splitOf_residual (adv : Nat) (steer : Int) (res : Nat) :
    (splitOf adv steer res).2 < 2048 := by simp [splitOf]; omega

/-- With a steer in range the left wheel's share is at most the whole advance. -/
theorem splitOf_le (adv : Nat) (steer : Int) (res : Nat) (h : steer ≤ 1023) (k : res < 2048) :
    (splitOf adv steer res).1 ≤ adv := by
  have e : (1024 + steer).toNat ≤ 2047 := by omega
  have m : adv * (1024 + steer).toNat ≤ adv * 2047 := Nat.mul_le_mul_left _ e
  unfold splitOf
  dsimp only
  rcases Nat.eq_zero_or_pos adv with rfl | p
  · simp; omega
  · omega

/-- The descent test never raises the step. -/
theorem descend_le (b : Nat → Nat) (rem exit k : Nat) : descend b rem exit k ≤ k := by
  induction k with
  | zero => simp [descend]
  | succ k ih => unfold descend; split <;> omega

/-- A step that the descent leaves fails the test of R34. -/
theorem descend_stops (b : Nat → Nat) (rem exit k : Nat) (h : exit < descend b rem exit k) :
    b (descend b rem exit k) - b exit < rem := by
  induction k with
  | zero => simp [descend] at h
  | succ k ih =>
    unfold descend at h ⊢
    split at h
    · rename_i c; rw [if_pos c]; exact ih h
    · rename_i c; rw [if_neg c]; omega

/-! ## Approach (R176, R182, R183) -/

/-- An approach from below ends between its start and its target. -/
theorem approach_up {step target x : Nat} (h : x ≤ target) :
    x ≤ approach step target x ∧ approach step target x ≤ target := by
  simp only [approach, if_pos h]; omega

/-- An approach from above ends between its target and its start. -/
theorem approach_down {step target x : Nat} (h : target < x) :
    target ≤ approach step target x ∧ approach step target x ≤ x := by
  simp only [approach, if_neg (Nat.not_le.mpr h)]; omega

/-- A value at its target stays there. -/
theorem approach_self (step x : Nat) : approach step x x = x := by simp [approach]

/-! ## Check generations (R116) -/

/-- The check generation raised by a check lies in 1 to 65535. -/
theorem nextGeneration_range (g : Nat) (h : g ≤ 65535) :
    1 ≤ nextGeneration g ∧ nextGeneration g ≤ 65535 := by
  unfold nextGeneration; split <;> omega

/-! ## The marker table (R9) -/

/-- The entries after an insertion: the new one, and those with another id. -/
theorem mem_insertMarker {m x : Marker} {l : List Marker}
    (h : (l.map (·.id)).Pairwise (· < ·)) :
    x ∈ insertMarker m l ↔ x = m ∨ (x ∈ l ∧ x.id ≠ m.id) := by
  induction l with
  | nil => simp [insertMarker]
  | cons y l ih =>
    simp only [List.map_cons, List.pairwise_cons, List.mem_map, forall_exists_index, and_imp,
      forall_apply_eq_imp_iff₂] at h
    obtain ⟨hy, hl⟩ := h
    unfold insertMarker
    split
    · rename_i c
      simp only [List.mem_cons]
      constructor
      · rintro (rfl | rfl | k)
        · exact .inl rfl
        · exact .inr ⟨.inl rfl, by omega⟩
        · exact .inr ⟨.inr k, by have := hy x k; omega⟩
      · rintro (rfl | ⟨k, -⟩)
        · exact .inl rfl
        · exact .inr k
    · split
      · rename_i c d
        simp only [List.mem_cons]
        constructor
        · rintro (rfl | k)
          · exact .inl rfl
          · exact .inr ⟨.inr k, by have := hy x k; omega⟩
        · rintro (rfl | ⟨rfl | k, n⟩)
          · exact .inl rfl
          · exact absurd d.symm n
          · exact .inr k
      · rename_i c d
        simp only [List.mem_cons, ih hl]
        constructor
        · rintro (rfl | rfl | ⟨k, n⟩)
          · exact .inr ⟨.inl rfl, fun e => d e.symm⟩
          · exact .inl rfl
          · exact .inr ⟨.inr k, n⟩
        · rintro (rfl | ⟨rfl | k, n⟩)
          · exact .inr (.inl rfl)
          · exact .inl rfl
          · exact .inr (.inr ⟨k, n⟩)

/-- The marker table stays in ascending id. -/
theorem insertMarker_sorted {m : Marker} {l : List Marker}
    (h : (l.map (·.id)).Pairwise (· < ·)) : ((insertMarker m l).map (·.id)).Pairwise (· < ·) := by
  induction l with
  | nil => simp [insertMarker]
  | cons y l ih =>
    have h' := h
    simp only [List.map_cons, List.pairwise_cons, List.mem_map, forall_exists_index, and_imp,
      forall_apply_eq_imp_iff₂] at h
    obtain ⟨hy, hl⟩ := h
    unfold insertMarker
    split
    · rename_i c
      simp only [List.map_cons, List.pairwise_cons, List.mem_cons, List.mem_map]
      refine ⟨?_, ?_, hl⟩
      · rintro a (rfl | ⟨x, k, rfl⟩)
        · exact c
        · exact Nat.lt_trans c (hy x k)
      · rintro a ⟨x, k, rfl⟩; exact hy x k
    · split
      · rename_i c d
        simp only [List.map_cons, List.pairwise_cons, List.mem_map]
        refine ⟨?_, hl⟩
        rintro a ⟨x, k, rfl⟩
        rw [d]; exact hy x k
      · rename_i c d
        simp only [List.map_cons, List.pairwise_cons, List.mem_map]
        refine ⟨?_, ih hl⟩
        rintro a ⟨x, k, rfl⟩
        rcases (mem_insertMarker hl).mp k with rfl | ⟨k, -⟩
        · omega
        · exact hy x k

/-- An insertion adds at most one entry, and none when the id is in the table. -/
theorem insertMarker_length (m : Marker) (l : List Marker) :
    (insertMarker m l).length ≤ l.length + 1 := by
  induction l with
  | nil => simp [insertMarker]
  | cons y l ih => unfold insertMarker; split <;> [skip; split] <;> simp only [List.length_cons] <;> omega

/-! ## The clip table (R170) -/

/-- An insertion adds exactly the new clip. -/
theorem insertClip_perm (c : Clip) (l : List Clip) : (insertClip c l).Perm (c :: l) := by
  induction l with
  | nil => exact List.Perm.refl _
  | cons x l ih =>
    unfold insertClip
    split
    · exact List.Perm.refl _
    · exact (List.Perm.cons x ih).trans (List.Perm.swap c x l)

/-- The clip table stays in ascending id when the new id is not in it. -/
theorem insertClip_sorted {c : Clip} {l : List Clip} (h : (l.map (·.id)).Pairwise (· < ·))
    (n : ∀ x ∈ l, x.id ≠ c.id) : ((insertClip c l).map (·.id)).Pairwise (· < ·) := by
  induction l with
  | nil => simp [insertClip]
  | cons x l ih =>
    simp only [List.map_cons, List.pairwise_cons, List.mem_map, forall_exists_index, and_imp,
      forall_apply_eq_imp_iff₂] at h
    obtain ⟨hx, hl⟩ := h
    unfold insertClip
    split
    · rename_i d
      simp only [List.map_cons, List.pairwise_cons, List.mem_cons, List.mem_map]
      refine ⟨?_, ?_, hl⟩
      · rintro a (rfl | ⟨y, k, rfl⟩)
        · exact d
        · exact Nat.lt_trans d (hx y k)
      · rintro a ⟨y, k, rfl⟩; exact hx y k
    · rename_i d
      simp only [List.map_cons, List.pairwise_cons, List.mem_map]
      refine ⟨?_, ih hl fun y k => n y (List.mem_cons_of_mem _ k)⟩
      rintro a ⟨y, k, rfl⟩
      have k' := (insertClip_perm c l).mem_iff.mp k
      rcases List.mem_cons.mp k' with rfl | k'
      · have := n x List.mem_cons_self; omega
      · exact hx y k'

end Sys2Proof.Machine
end

