-- ==== Sys2Proof/Tests/Slice0.lean ====
section
/-! SUPPORT. Tests of the model against the spec's own tables and worked sequences, each about one
step, the refusals of WellFormed, and for every obligation with hypotheses a named state and operands
that meet them together. -/

namespace Sys2Proof.Tests

open Sys2Proof.Machine

-- One theorem at a time: each waits for the kernel, and many waiting at once are many threads.
set_option Elab.async false

/-! ## States to start from -/

/-- The state after one command. -/
def after (c : Instr) (s : State) : State :=
  match exec c s with
  | .next t => t
  | .fault _ => s
  | .refused _ => s

/-- The leg of the first worked profile (chapter 02). -/
def leg : Leg := ⟨.fwd, 12000, 3, 0, false, 0, 1, none⟩

/-- Reset, then a permit GRANTED for generation 18. -/
def permitted : State :=
  { State.reset with permit := { Permit.powerOn with
      state := .granted, generation := 18, consentRemaining := some 500,
      periodWindow := some 500, lowGiven := some false } }

/-- A permit and one pending leg. -/
def queued : State := permitted.onMotion fun m => { m with queue := [leg] }

/-- A permit and a current leg in a phase with the drives on. -/
def running (ph : Phase) (c : CurrentLeg) : State :=
  { permitted with
    motion := { MotionGenerator.powerOn with
      phase := ph, current := some c, lastEff := c.kEff },
    drive := { DriveUnit.powerOn with enable := true, brakeRelease := true },
    seats := { SeatMonitor.powerOn with driveTold := true } }

/-- The worked leg at step `k` with `rem` to run. -/
def onStep (k rem : Nat) : CurrentLeg := ⟨leg, rem, k, some k, 0, none, false⟩

def cruising : State := running .cruise (onStep 3 6000)

/-- FAULTED with an ALARM_LEFT record. -/
def faulted : State := State.reset.onMotion fun m =>
  { m with phase := .faulted, fault := some ⟨.alarmLeft, 0, none⟩ }

/-- Seat 0 CONFIRMED at bar position `bar` with confirm bar position 96 (chapter 06). -/
def barAt (bar : Nat) : State := permitted.setSeat 0 { Seat.powerOn with
  state := .confirmed, occupied := true, bar := bar, confirmBar := some 96,
  confirmGeneration := some 18, filtered := .locked, changes := 3 }

/-- A clip table of one clip, with voice 0 as given. -/
def playing (c : Clip) (x : Voice) : State :=
  (State.reset.onSound fun u => { u with clips := [c] }).setVoice 0 x

/-- A voice with one sample at a gain, heard in zone 0. -/
def heardVoice (sample : Int) (gain : Nat) : Voice :=
  { Voice.powerOn with
    state := .playing, clip := some 1, plays := some 1, fetchPasses := some 1, gain := gain,
    target := gain, zones := 1, fifo := [sample], primed := true }

def clip16 : Clip := ⟨1, .pcm16, 4096, 1000, 200⟩

def legBytes : LegBytes := ⟨0, 12000, 3, 0, 0, 0, 1⟩

def playBytes : PlayBytes := ⟨1, 30, 200, 0, 1, 1, 0, 0⟩

/-- A cue on the forward direction. -/
def cueAt (trigger : Int) (latest : Option Int) (actions : List CueAction) : Cue :=
  ⟨trigger, .fwd, latest, actions, false⟩

/-! ## WellFormed refuses what a row's words rule out -/

theorem test_unknown_code_names_no_command :
    (Instr.unknownCode .a 0x01).wellFormed = false
      ∧ (Instr.unknownCode .a 0xFF).wellFormed = true := by decide

theorem test_write_setting_has_no_row_of_its_own :
    (Instr.writeSetting .a 32 4).wellFormed = false
      ∧ (Instr.writeSetting .a 48 4).wellFormed = false
      ∧ (Instr.writeSetting .a 49 200).wellFormed = true
      ∧ (Instr.writeSetting .a 255 0).wellFormed = true := by decide

theorem test_load_cue_counts_its_records :
    (Instr.loadCue .c ⟨0, 100, 0, 0, 0, 2, [Vector.replicate 10 0]⟩).wellFormed = false
      ∧ (Instr.loadCue .c ⟨0, 100, 0, 0, 0, 1, [Vector.replicate 10 0]⟩).wellFormed = true
      ∧ (Instr.loadCue .c ⟨0, 100, 0, 0, 0, 9, []⟩).wellFormed = true := by decide

/-! ## Bytes of commands (chapter 11, command summary) -/

theorem test_bytes_of_ports_and_settings :
    parseCommand .a quietPins 0x00 [] = some (.nop .a)
      ∧ parseCommand .b quietPins 0x03 [0x63, 0, 0, 1, 0xF4] = some (.writeSetting .b 99 500)
      ∧ parseCommand .a quietPins 0x03 [33, 0, 200, 1, 0x90]
        = some (.writeRampTable .a (.step 0) 0xC80190) := by decide +kernel

theorem test_bytes_of_route_and_motion :
    parseCommand .a quietPins 0x10 [12, 0, 0, 0x9C, 0x40, 1, 0x2C, 0]
        = some (.loadMarker .a 12 40000 300 0)
      ∧ parseCommand .a quietPins 0x20 [1, 0, 0x2E, 0xE0, 3, 0xFF, 0xFF, 0, 0, 0xC8, 7]
        = some (.appendLeg .a ⟨1, 12000, 3, 0xFFFF, 0, 200, 7⟩) := by decide +kernel

theorem test_bytes_of_turntable_seats_and_permit :
    parseCommand .c quietPins 0x30 [0x0C, 0, 2] = some (.turnTo .c 3072 2)
      ∧ parseCommand .a quietPins 0x38 [0x81] = some (.releaseBars .a 0x81)
      ∧ parseCommand .b quietPins 0x41 [0, 18, 0xFF] = some (.concur .b 18 0xFF) := by
  decide +kernel

theorem test_bytes_of_cues_effects_and_sound :
    parseCommand .c quietPins 0x54 [63] = some (.fireCue .c 63)
      ∧ parseCommand .c quietPins 0x60 [3, 1, 2, 0, 50, 0, 100, 4, 255]
        = some (.setEffectArm .c 3 ⟨2, 50, 100, 4, 255⟩)
      ∧ parseCommand .c quietPins 0x71 [5, 9, 200, 0, 15, 1, 0, 1]
        = some (.play .c ⟨5, 9, 200, 0, 15, 1, 0, 1⟩) := by decide +kernel

/-- Slots 1 and 2 of the worked frame (chapter 11): the event set leaves as 000A0000h. -/
theorem test_worked_frame_status :
    ((after (.readStatus .b) (State.reset.onPort .b fun x => { x with
        framer := .awaitCode, events := 0xA0000 })).ports.get .b).response
      = some ⟨[0x01, 0, 7, 0, 0x0A, 0, 0, 0, 0, 0], 1⟩ := by decide +kernel

/-- Slot 7 of the worked frame: Renew Consent for generation 17 of 18. -/
theorem test_worked_frame_renew_is_stale :
    (((after (.byteSlot .b 0x11 quietPins) (permitted.onPort .b fun x => { x with
        framer := .arguments, inProgress := some ⟨0x42, [0], 1⟩ })).ports.get .b).lastRefusal
      = some ⟨.stale, 0x42⟩) := by decide +kernel

/-- Slot 9 of the worked frame: Read Setting 99 answers 500. -/
theorem test_worked_frame_setting :
    ((after (.byteSlot .b 0x63 quietPins) (State.reset.onPort .b fun x => { x with
        framer := .arguments, inProgress := some ⟨0x02, [], 1⟩ })).ports.get .b).response
      = some ⟨[0x02, 0, 5, 0x63, 0, 0, 1, 0xF4], 1⟩ := by decide +kernel

/-- The rows have no bits of their own, so no word spells a command (log 20). -/
theorem test_no_word_spells_a_command : decodeTableWord 8 0 = none := rfl

/-! ## Route Counter (chapter 01, worked sequences) -/

/-- Marker `m` is in the table, its byte is pending, and the vehicle stands at `p`. -/
def atMarker (m : Marker) (p : Int) (mismatches : Nat) (s : State) : State :=
  s.onRoute fun r => { r with
    markers := [m], position := p, mismatches := mismatches,
    framer := some ⟨BitVec.ofNat 8 m.id, some 2⟩ }

theorem test_marker_12_corrects :
    (after (.markerByteReceived 0xF3 true) (atMarker ⟨12, 40000, 300, .correct⟩ 39850 1 cruising)).route
      = { RouteCounter.powerOn with
          markers := [⟨12, 40000, 300, .correct⟩], position := 40000, lastMarker := some ⟨12, 150⟩ } := by
  decide +kernel

theorem test_marker_15_loses_the_position :
    let t := after (.markerByteReceived 0xF0 true)
      (atMarker ⟨15, 70000, 250, .check⟩ 70400 2 cruising)
    t.route.position = 70400 ∧ t.route.mismatches = 3 ∧ t.route.lost = true
      ∧ t.motion.phase = .stopping ∧ t.motion.pendingStop = some .positionLost := by decide +kernel

/-- The seek leg of the second worked sequence, on marker 40. -/
def seeking (a : SeekAction) : State :=
  atMarker ⟨40, 91000, 100, .check⟩ 91180 0
    (running .cruise ⟨{ leg with length := 6000, top := 1, seek := some ⟨40, a⟩ }, 3320, 1, some 1, 0,
      some 0, false⟩)

theorem test_mark_seek_records_the_position :
    let t := after (.markerByteReceived 0xD7 true) (seeking .mark)
    t.route.position = 91180 ∧ t.route.markRecord = some ⟨91180, 40⟩
      ∧ t.route.lastMarker = some ⟨40, -180⟩ ∧ t.route.mismatches = 0
      ∧ t.motion.phase = .decel ∧ t.motion.retreat = some ⟨0, 0, false, false⟩ := by decide +kernel

theorem test_align_seek_sets_the_position :
    let t := after (.markerByteReceived 0xD7 true) (seeking .align)
    t.route.position = 91000 ∧ t.route.markRecord = none := by decide +kernel

theorem test_encoder_counts_down_and_errs :
    (after (.encoderTransition .left false true) (State.reset.onRoute fun r =>
        { r with previous := r.previous.set .left (some (false, false)) })).route.delta.left = -1
      ∧ (after (.encoderTransition .left true true) (State.reset.onRoute fun r =>
        { r with previous := r.previous.set .left (some (false, false)) })).route.errors.left = 1 := by
  decide +kernel

/-- The gap timer of R8: 2 ms after the pending byte it expires, and a start bit stops it. -/
theorem test_gap_timer_counts_two_ticks :
    let tick := after (.motionTick quietPins .asSteps)
    let s := after (.markerByteReceived 12 true) State.reset
    (after .markerGapExpiry (tick s)).route.framer = some ⟨12, some 1⟩
      ∧ (after .markerGapExpiry (tick (tick s))).route.framer = none
      ∧ (after .markerGapExpiry (tick (tick (after .startBit s)))).route.framer = some ⟨12, none⟩ := by
  decide +kernel

/-- Two encoders at a limit as it is written with drive enable on: a fault and a second fault. -/
theorem test_limit_write_reports_each :
    let t := after (.writeEncoderErrorLimit .b 20) (cruising.onRoute fun r =>
      { r with errors := ⟨19, 20, 255⟩ })
    t.route.conditions = ⟨false, true, true⟩ ∧ t.motion.fault.map (·.cause) = some .encoderRight
      ∧ t.motion.extraFaults = 1 := by decide +kernel

/-! ## Motion (chapters 02 to 04, worked profiles and sequences) -/

/-- Tick 4,000 of the first worked profile. -/
theorem test_profile_latches_and_descends :
    let c := (after (.motionTick quietPins .asSteps) (running .cruise (onStep 3 4004))).motion.current
    c.map (·.rem) = some 4000 ∧ c.map (·.kLeg) = some 2 ∧ c.map (·.exitStep) = some (some 0) := by
  decide +kernel

/-- Tick 4,000 of the profile with a flow leg behind: exit step 1 and no descent. -/
theorem test_profile_latches_the_flow_exit :
    let t := after (.motionTick quietPins .asSteps)
      ((running .cruise (onStep 3 4004)).onMotion fun m =>
        { m with queue := [{ leg with length := 6000, top := 1, flow := true, tag := 2 }] })
    t.motion.current.map (·.kLeg) = some 3 ∧ t.motion.current.map (·.exitStep) = some (some 1)
      ∧ t.motion.phase = .cruise := by decide +kernel

/-- The worked split, tick 3: q 3, left 2, right 1. -/
theorem test_worked_split :
    let t := after (.motionTick quietPins .asSteps)
      ((running .cruise ⟨{ leg with top := 2, steer := 256 }, 6000, 2, some 2, 0, none, false⟩).onDrive
        fun d => { d with accumulator := 800, residual := 1024 })
    t.drive.plan.left = ⟨2, 2, 0⟩ ∧ t.drive.plan.right = ⟨1, 1, 0⟩ ∧ t.drive.accumulator = 200
      ∧ t.drive.residual = 768 := by decide +kernel

/-- Five pulses in a tick (R47): the slots are 200 µs long, and a cut after one leaves one (R57). -/
theorem test_step_line :
    let s (n : Nat) := cruising.onDrive fun d => { d with plan := d.plan.set .left ⟨5, n, n⟩ }
    [7999, 8000, 11999, 12000, 207999, 208000, 808000].map ((s 5).stepOut .left)
        = [false, true, true, false, false, true, true]
      ∧ [8000, 208000].map ((s 1).stepOut .left) = [true, false] := by decide +kernel

theorem test_go_raises_the_drives :
    let t := after (.go .a) queued
    t.motion.phase = .pre ∧ t.motion.phaseTimer = some 200 ∧ t.drive.enable = true
      ∧ t.drive.brakeRelease = true := by decide +kernel

/-- A hold at cruise (chapter 04): the retreat starts one step below. -/
theorem test_hold_at_cruise :
    let t := after (.hold .a) cruising
    t.motion.phase = .holding ∧ t.motion.retreat = some ⟨2, 0, false, false⟩
      ∧ t.motion.holds = ⟨true, false, false⟩ := by decide +kernel

/-- A leg joined by flow at step 2 after a tick that rose from step 1, held and released before its first
tick: the last profile operation's k_eff is 1 (R65), though the retreat began from k_leg 2 (R66). -/
theorem test_release_before_first_tick :
    let joined := (running .cruise { onStep 2 6000 with kEff := none, stepDistance := 5 }).onMotion
      fun m => { m with lastEff := some 1 }
    let held := after (.hold .a) joined
    let t := after (.releaseHold .a 0) held
    held.motion.retreat = some ⟨1, 0, false, false⟩
      ∧ t.motion.current = some { onStep 1 6000 with kEff := none, stepDistance := 0 }
      ∧ t.motion.phase = .accel := by decide +kernel

/-- A blocked wheel (chapter 03): an error above 512 is a FOLLOW_LEFT fault. -/
theorem test_blocked_wheel_faults :
    let t := after (.motionTick quietPins .asSteps) (cruising.onDrive fun d =>
      { d with commanded := d.commanded.set .left 513 })
    t.motion.phase = .faulted ∧ t.motion.fault.map (·.cause) = some .followLeft
      ∧ t.drive.enable = false := by decide +kernel

/-! ## Turntable (chapter 05) -/

theorem test_distance_examples :
    turnDistance 4096 3900 100 .short = (.fwd, 296)
      ∧ turnDistance 4096 3900 1852 .short = (.fwd, 2048)
      ∧ turnDistance 4096 3900 1853 .short = (.rev, 2047)
      ∧ turnDistance 4096 100 3900 .short = (.rev, 296)
      ∧ turnDistance 4096 100 3900 .fwd = (.fwd, 3800)
      ∧ turnDistance 4096 3900 100 .rev = (.rev, 3800) := by decide

/-- A turn in TT_TURNING. -/
def turning (r : Run) : State :=
  { permitted with
    tt := { Turntable.powerOn with phase := .turning, position := 3900, homed := true, run := some r },
    drive := { DriveUnit.powerOn with enable := true },
    seats := { SeatMonitor.powerOn with driveTold := true } }

/-- Tick 640 of the worked turn: the rise to step 1. -/
theorem test_worked_turn_rises :
    let r := (after (.motionTick quietPins .asSteps)
      (turning ⟨.turn 100 .short, .fwd, 233, 0, some 0, 63, 900, none⟩)).tt.run
    r.map (·.rem) = some 232 ∧ r.map (·.k) = some 1 ∧ r.map (·.accumulator) = some 0 := by
  decide +kernel

/-! ## Seats and permit (chapters 06 and 07) -/

theorem test_lifted_bar :
    ((after (.barCountEdge 0 false) (barAt 94)).seat 0).state = .confirmed
      ∧ ((after (.barCountEdge 0 false) (barAt 93)).seat 0).state = .fault
      ∧ ((after (.barCountEdge 0 false) (barAt 93)).seat 0).changes = 4
      ∧ (after (.barCountEdge 0 false) (barAt 93)).permit.lastLoss = .seatChanged := by decide +kernel

/-- Two fitted seats, LOCKED, seat 0 with a rider (chapter 06, boarding). -/
def boarded : State :=
  (((State.reset.onSettings fun x => { x with fittedSeatCount := 2 }).onSeats fun m =>
    { m with seat := Vector.replicate 8 { Seat.powerOn with state := .notFitted } }).setSeat 0
      { Seat.powerOn with state := .locked, occupied := true, bar := 96, filtered := .locked }).setSeat 1
      { Seat.powerOn with state := .locked, bar := 180, filtered := .locked }

theorem test_boarding_check_passes :
    let t := after (.beginCheck .a) boarded
    t.permit.state = .awaitingConcur ∧ t.permit.generation = 1 ∧ t.permit.passMask = 3
      ∧ (t.seat 0).confirmBar = some 96 ∧ (t.seat 1).state = .confirmed := by decide +kernel

theorem test_concur_grants :
    (after (.concur .b 1 3) (after (.beginCheck .a) boarded)).permit.state = .granted := by
  decide +kernel

theorem test_release_bars_pulls_in :
    ((after (.releaseBars .a 2) boarded).seat 1).state = .releasing
      ∧ ((after (.releaseBars .a 2) boarded).seat 1).solenoid = .pullIn := by decide +kernel

/-- The default hold level is on for 312.5 µs of each millisecond (R108). -/
theorem test_solenoid_holds :
    let s := State.reset.setSeat 0 { Seat.powerOn with
      state := .releasing, solenoid := .hold, holdLevel := 5 }
    s.solenoidOut 0 312499 = true ∧ s.solenoidOut 0 312500 = false
      ∧ (s.onSeats fun m => { m with driveTold := true }).solenoidOut 0 0 = false := by decide +kernel

/-! ## Cues, effects and sound (chapters 08 to 10) -/

def pulse300 : PatternBytes := ⟨1, 300, 0, 0, 255⟩

/-- Slots 7, 9 and 12 of the worked ride segment, with voice 1 PLAYING. -/
def rideSegment : State :=
  (((State.reset.setSlot 7 (some ⟨40100, .any, none, [.zone 2 200 4], false⟩)).setSlot 9
      (some (cueAt 40180 (some 40250) [.effect 2 0 ⟨0, 0, 0, 0, 255⟩]))).setSlot 12
      (some (cueAt 40260 (some 40320) [.play playBytes, .effect 5 0 pulse300]))).onCues
    fun e => { e with engine := .armed }

/-- Voice 1 PLAYING a clip started earlier, clip 30 mounted, the vehicle at `p`. -/
def segmentAt (p : Int) : State :=
  ((rideSegment.onSound fun u => { u with clips := [clip16, { clip16 with id := 30 }] }).setVoice 1
    (heardVoice 0 128)).onRoute fun r => { r with position := p }

theorem test_shared_trigger_fires :
    ((segmentAt 40102).sample 40098 40102).cues.log = [⟨7, .fired, none, 40102⟩] := by decide +kernel

theorem test_forward_correction :
    ((segmentAt 40280).jump 40170 40280).cues.log
      = [⟨9, .missed, none, 40280⟩, ⟨12, .fired, none, 40280⟩, ⟨12, .dropped, some 0, 40280⟩]
      ∧ (((segmentAt 40280).jump 40170 40280).channel 5).state = .pulseOn := by decide +kernel

/-- The same correction as it arrives on the marker reader line: the arrival passes its jump (R12). -/
theorem test_correction_passes_its_jump :
    let s := atMarker ⟨12, 40280, 300, .correct⟩ 40170 0 (segmentAt 40170)
    (after (.markerByteReceived 0xF3 true) s).cues.log
      = [⟨9, .missed, none, 40280⟩, ⟨12, .fired, none, 40280⟩, ⟨12, .dropped, some 0, 40280⟩]
      ∧ (after (.markerByteReceived 0xF3 true) s).route.position = 40280 := by decide +kernel

/-- The shared trigger as a motion tick crosses it: the tick passes its sample (R5). -/
theorem test_tick_passes_its_sample :
    (after (.motionTick quietPins .asSteps)
      ((segmentAt 40098).onRoute fun r => { r with delta := ⟨2, 2, 0⟩ })).cues.log
      = [⟨7, .fired, none, 40102⟩] := by decide +kernel

/-- A cue whose SCENE_HOLD of duration 0 is dropped and whose next one holds (R63, R148). -/
theorem test_scene_hold_action :
    let t := after (.fireCue .c 3) (cruising.setSlot 3
      (some (cueAt 100 none [.sceneHold 0, .sceneHold 500])))
    t.cues.log.map (fun e => (e.outcome, e.action)) = [(.fired, none), (.dropped, some 0)]
      ∧ t.motion.sceneTimer = some 500 ∧ t.motion.phase = .holding := by decide +kernel

/-- A pattern as a record of R207, its link present and absent. -/
theorem test_pattern_bytes :
    (Pattern.mk .burst 100 50 3 (some 3)).bytes = [2, 0, 100, 0, 50, 3, 1, 3]
      ∧ (Pattern.mk .dim 0 0 255 none).bytes = [4, 0, 0, 0, 0, 255, 0, 0] := by decide +kernel

/-- Times 100 and 400 of the worked chain: BURST_OFF with 2 left, then the link to channel 3. -/
def chain (interval bursts : Nat) : State :=
  (State.reset.setChannel 2 ⟨.burstOn, some ⟨.burst, 100, 50, 3, some 3⟩, some interval, some bursts,
      none, 0⟩).setChannel 3 ⟨.off, none, none, none, some ⟨.pulse, 400, 0, 0, some 2⟩, 0⟩

theorem test_burst_goes_off :
    ((after (.effectIntervalEnd 2) (chain 0 3)).channel 2).state = .burstOff
      ∧ ((after (.effectIntervalEnd 2) (chain 0 3)).channel 2).bursts = some 2 := by decide +kernel

theorem test_chain_links :
    ((after (.effectIntervalEnd 2) (chain 0 1)).channel 2).completions = 1
      ∧ ((after (.effectIntervalEnd 2) (chain 0 1)).channel 3).state = .pulseOn := by decide +kernel

/-- The bits of a slot. -/
def allBits : List (Fin 8) := List.finRange 8

/-- The worked mix: 60,156 saturates. -/
theorem test_worked_mix_saturates :
    let s := ((playing clip16 (heardVoice 20000 128)).setVoice 1 (heardVoice 18000 200)).onSound
      fun u => { u with zone := u.zone.set 0 ⟨160, 160, 0⟩ }
    (after (.audioSamplePeriod .asSteps) s).sound.formed[0] = 32767
      ∧ (after (.audioSamplePeriod .asSteps) s).sound.zoneClips[0] = 1 := by decide +kernel

/-- The worked mix: −1 stays −1, and 17,812 under the duck ceiling 48. -/
theorem test_worked_mix_rounds_down :
    (after (.audioSamplePeriod .asSteps) (playing clip16 (heardVoice (-1) 1))).sound.formed[0] = -1
      ∧ (after (.audioSamplePeriod .asSteps) ((((playing clip16 (heardVoice 20000 128)).setVoice 1
          (heardVoice 18000 200)).setVoice 5 { Voice.powerOn with state := .playing }).onSound
          fun u => { u with zone := u.zone.set 0 ⟨160, 160, 0⟩, duck := 48 })).sound.formed[0]
        = 17812 := by decide +kernel

/-- PCM8U byte 40h is −16,384 (chapter 10, worked mix). -/
theorem test_pcm8u_sample :
    let s := (playing { clip16 with format := .pcm8u } { heardVoice 0 128 with
        refillInFlight := true, fifo := [] }).onSound fun u => { u with
      flash := some ⟨.voice 0, 4096, 256, 256, 0⟩ }
    ((after (.refillSampleArrives 0x40 0) s).voice 0).fifo = [-16384] := by decide +kernel

/-- The frame of R185: the sign bit of −32,768 in the second bit clock, its last bit in the 17th. -/
theorem test_audio_frame :
    let s := State.reset.onSound fun u => { u with sent := (u.sent.set 0 (-32768)).set 1 1 }
    [0, 1, 2, 16, 17, 40, 41, 42].map (s.audioOut false)
        = [false, true, false, false, false, false, true, false]
      ∧ [0, 24, 25, 49].map s.audioSelect = [false, false, true, true] := by decide +kernel

/-- A read of three bytes at 4,097 (R167): 03h 00h 10h 01h, most significant bit first, then low. -/
theorem test_flash_lines :
    let s := State.reset.onSound fun u => { u with flash := some ⟨.mount, 4097, 3, 0, 0⟩ }
    [0, 5, 6, 7, 18, 19, 20, 30, 31, 32].map s.flashOut
        = [false, false, true, true, false, true, false, false, true, false]
      ∧ s.flashSelect = false ∧ s.flashClock 55 true = true ∧ s.flashClock 56 true = false
      ∧ State.reset.flashSelect = true := by decide +kernel

/-- SDO: the byte of the slot in a frame, high impedance outside (R191) and under RESET (R205). -/
theorem test_sdo_line :
    let s := State.reset.onPort .b fun x => { x with framer := .void, sdo := 0x81 }
    allBits.map (s.sdoLine .b) = [some true, some false, some false, some false, some false,
        some false, some false, some true]
      ∧ s.sdoLine .a 0 = none ∧ ({ s with inReset := true }).sdoLine .b 0 = none := by decide +kernel

/-! ## States that meet the hypotheses of the obligations

Each theorem is named after its obligation and meets every hypothesis of it together, clause by clause
where the clauses differ, at a boundary where a hypothesis has one. -/

/-- Completes at a state and satisfies a test of the result. -/
def gives (c : Instr) (s : State) (test : State → Bool) : Bool :=
  match exec c s with
  | .next t => test t
  | .fault _ => false
  | .refused _ => false

theorem next_after {c : Instr} {s : State} (h : gives c s (fun _ => true) = true) :
    exec c s = .next (after c s) := by
  unfold gives at h
  unfold after
  cases hx : exec c s <;> simp_all

/-- A port in a frame, awaiting a code. -/
def framed : State := State.reset.onPort .b fun x => { x with framer := .awaitCode }

/-- A port in the middle of a Load Cue: eleven bytes received, the count still owed. -/
def inCue : State := State.reset.onPort .c fun x => { x with
  framer := .arguments, inProgress := some ⟨0x50, List.replicate 11 0, 1⟩ }

/-- A port that owes the last byte of a command. -/
def owing (code : Byte) (received : List Byte) : State := State.reset.onPort .c fun x => { x with
  framer := .arguments, inProgress := some ⟨code, received, 1⟩ }

/-- Seat 3 in FAULT. -/
def seatFaulted : State := State.reset.setSeat 3 { Seat.powerOn with
  state := .fault, cause := some .lockLost, filtered := .locked }

/-- A reading pending in the marker framer, its id not in the table, and one in it. -/
def markerPending : State := atMarker ⟨12, 40000, 300, .correct⟩ 39850 1 cruising

/-- HELD on one reason, with the current leg kept. -/
def heldOn (h : HoldSet) (timer : Option Nat) : State :=
  (running .held ⟨leg, 6000, 0, none, 0, none, false⟩).onMotion fun m =>
    { m with holds := h, sceneTimer := timer }

/-- HOLDING with a retreat under way. -/
def holdingRide : State :=
  (running .holding (onStep 3 6000)).onMotion fun m =>
    { m with holds := ⟨true, false, false⟩, retreat := some ⟨1, 0, false, true⟩ }

/-- The profile operation's state of `TickRunsTheProfile` for a state, with quiet lines. -/
def closed (s : State) : State :=
  (((s.withPins quietPins).onDrive (·.tickEnded)).timersFall).tickClose

/-- Seat 0 as given, a permit GRANTED. -/
def seated (x : Seat) : State := permitted.setSeat 0 x

/-- A cue of one action of each kind that `FireCue` names. -/
def cueOf (a : CueAction) : State := State.reset.setSlot 63 (some (cueAt 100 none [a]))

/-- A refill of voice 0 with `n` of 256 samples arrived. -/
def refilling (n : Nat) : State :=
  (playing clip16 { heardVoice 0 128 with refillInFlight := true, fifo := [] }).onSound fun u =>
    { u with flash := some ⟨.voice 0, 4096, 512, 256, n⟩ }

theorem test_witness_StepRunsFrontCommand :
    ({ State.reset with pending := [.go .a, .nop .b] }).pending = .go .a :: [.nop .b]
      ∧ State.reset.pending = [] := ⟨rfl, rfl⟩

theorem test_witness_ResetLine :
    ({ State.reset with inReset := true }).inReset = true ∧ State.reset.inReset = false := ⟨rfl, rfl⟩

theorem test_witness_SettingsChangeOnlyByWrites :
    exec (.go .a) queued = .next (after (.go .a) queued) := next_after (by decide +kernel)

theorem test_witness_GrantsAndFaultsLatch :
    (exec (.go .a) faulted = .next (after (.go .a) faulted)
        ∧ faulted.permit.state ≠ .granted ∧ faulted.motion.phase = .faulted)
      ∧ exec (.releaseBars .a 255) seatFaulted = .next (after (.releaseBars .a 255) seatFaulted)
      ∧ (seatFaulted.seat 3).state = .fault :=
  ⟨⟨next_after (by decide +kernel), by decide⟩, next_after (by decide +kernel), by decide +kernel⟩

theorem test_witness_FramesBeginAndEnd :
    framed.inReset = false ∧ (framed.ports.get .b).framer ≠ .deselected
      ∧ (framed.ports.get .a).framer = .deselected := by decide

theorem test_witness_FramerTakesBytes :
    State.reset.inReset = false ∧ (State.reset.ports.get .a).framer = .deselected
      ∧ framed.inReset = false ∧ (framed.ports.get .b).framer = .awaitCode
      ∧ argumentCount 0xFF = none ∧ argumentCount 0x02 = some 1
      ∧ inCue.inReset = false ∧ (inCue.ports.get .c).framer = .arguments
      ∧ (inCue.ports.get .c).inProgress = some ⟨0x50, List.replicate 11 0, 1⟩
      ∧ 0 < 1 - 1 + 10 * (4 : Byte).toNat
      ∧ (owing 0x60 [3, 3, 0, 0, 0, 0, 0, 0]).inReset = false
      ∧ ((owing 0x60 [3, 3, 0, 0, 0, 0, 0, 0]).ports.get .c).framer = .arguments
      ∧ 2 < (([3, 3, 0, 0, 0, 0, 0, 0] : List Byte).getD 1 0).toNat
      ∧ ((owing 0x04 []).ports.get .c).inProgress = some ⟨0x04, [], 1⟩
      ∧ 1 < (2 : Byte).toNat := by decide

theorem test_witness_ResponsesAndReadStatus :
    framed.inReset = false ∧ (Instr.softStop .b).sender = some .b ∧ (Instr.softStop .b).isRead = false
      ∧ (framed.ports.get .b).framer ≠ .deselected := by decide

theorem test_witness_ReadsAnswer :
    framed.inReset = false ∧ settingOf (99 : Byte).toNat = some .consentWindow
      ∧ settingOf (7 : Byte).toNat = none ∧ (63 : Byte).toNat < 64 := by decide

/-- Read Permit and Read Legs laid out by hand from R130, R19 and R207: the consent window of 500 ms is
01 01 F4, and the leg of 12,000 ru at step 3 is sixteen bytes with its absent marker and action. -/
theorem test_read_permit_and_legs :
    gives (.readPermit .b) permitted (fun t => (t.ports.get .b).response = some
        ⟨[0x44, 0, 33, 2, 0, 18, 0, 0] ++ List.replicate 19 0
          ++ [1, 0x01, 0xF4, 1, 0x01, 0xF4, 1, 0, 0], 0⟩) = true
      ∧ gives (.readLegs .a) queued (fun t => (t.ports.get .a).response = some
        ⟨[0x2A, 0, 17, 1, 0, 0, 0, 0x2E, 0xE0, 3, 0, 0, 0, 0, 0, 1, 0, 0, 0, 0], 0⟩) = true := by
  decide +kernel

theorem test_witness_WriteSettingTests :
    State.reset.inReset = false ∧ settingOf 99 = some .consentWindow
      ∧ Setting.consentWindow.owner = .b ∧ Setting.consentWindow.admitted State.reset = true
      ∧ Setting.consentWindow.accepts State.reset.settings (5000 : BitVec 32).toNat = true
      ∧ Setting.fittedSeatCount.value State.reset = (8 : BitVec 32).toNat := by
  decide +kernel

/-- The state at reset meets the premises of the clause on the value already held. -/
theorem test_witness_SettingsInForce : State.reset.PortsSound ∧ State.reset.SettingsInForce := by
  refine ⟨fun p => by cases p <;> exact ⟨by decide, by decide⟩, by decide, by decide, ?_, by decide,
    by decide⟩
  intro i; cases i <;> decide

theorem test_witness_WritesThatActAtOnce :
    State.reset.inReset = false ∧ (536870911 : BitVec 32).toNat ≤ 536870911
      ∧ (2047 : BitVec 32).toNat ≤ 2047 ∧ State.reset.tt.phase = .idle
      ∧ 256 ≤ (256 : BitVec 32).toNat ∧ (256 : BitVec 32).toNat ≤ 65535
      ∧ 1 ≤ (255 : BitVec 32).toNat ∧ (255 : BitVec 32).toNat ≤ 255
      ∧ State.reset.permit.state = .noPermit ∧ State.reset.motion.phase = .idle
      ∧ (∀ i, (State.reset.seat i).state ≠ .releasing)
      ∧ (∀ s ∈ [cruising, faulted.onDrive fun d => { d with enable := true }],
          let s := s.onRoute fun r => { r with errors := ⟨1, 0, 1⟩ }
          s.inReset = false ∧ s.drive.enable = true ∧ s.motion.extraFaults ≤ 255
            ∧ [Axis.left, .right, .turntable].filter (fun i => !s.route.conditions.get i
              && decide ((1 : BitVec 32).toNat ≤ s.route.errors.get i)) = [.left, .turntable]) := by
  decide +kernel

theorem test_witness_CommandBytesRoundTrip :
    (Instr.concur .b 18 0xFF).wellFormed = true ∧ (Instr.concur .b 18 0xFF).sender = some .b
      ∧ frameBytes (.concur .b 18 0xFF) = some [0x41, 0, 18, 0xFF]
      ∧ parseCommand .b quietPins 0x41 [0, 18, 0xFF] = some (.concur .b 18 0xFF) := by decide +kernel

theorem test_witness_BytesSpellTheRows :
    framed.inReset = false ∧ (framed.ports.get .b).framer = .awaitCode
      ∧ (framed.ports.get .b).inProgress = none ∧ (Instr.concur .b 18 0xFF).sender = some .b
      ∧ frameBytes (.concur .b 18 0xFF) = some [0x41, 0, 18, 0xFF] := by decide +kernel

theorem test_witness_EncoderCounting :
    State.reset.inReset = false ∧ State.reset.route.previous.get .left = none
      ∧ cruising.drive.enable = true := by decide

theorem test_witness_MarkerFraming :
    markerPending.inReset = false
      ∧ markerPending.route.framer.all ((7 : Byte) ≠ ~~~·.byte) = true
      ∧ State.reset.route.framer.all ((7 : Byte) ≠ ~~~·.byte) = true
      ∧ (markerPending.setFramer (some ⟨12, some 0⟩)).route.framer.any (·.gap = some 0) = true := by
  decide

theorem test_witness_MarkerArrivals :
    markerPending.inReset = false ∧ markerPending.route.framer = some ⟨12, some 2⟩
      ∧ markerPending.soughtAction (12 : Byte).toNat = none
      ∧ (seeking .mark).inReset = false ∧ (seeking .mark).route.framer = some ⟨40, some 2⟩
      ∧ (seeking .mark).route.entry (40 : Byte).toNat = some ⟨40, 91000, 100, .check⟩
      ∧ (let s := atMarker ⟨12, 40280, 300, .correct⟩ 40170 0 (segmentAt 40170)
        s.inReset = false ∧ s.route.framer = some ⟨12, some 2⟩ ∧ s.cues.engine = .armed
        ∧ s.soughtAction (12 : Byte).toNat = none
        ∧ s.route.entry (12 : Byte).toNat = some ⟨12, 40280, 300, .correct⟩)
      ∧ ((seeking .align).onRoute fun r => { r with framer := none, position := 91000 }).motion.current
        ≠ none
      ∧ (seeking .align).cues.engine = .disarmed ∧ (seeking .mark).motion.phase = .cruise
      ∧ ((seeking .mark).motion.current.bind (·.leg.seek)) = some ⟨40, .mark⟩
      ∧ (seeking .mark).motion.current.map (·.markerTaken) = some false := by decide +kernel

theorem test_witness_MarkerTableAndZeroRoute :
    markerPending.inReset = false ∧ State.reset.inReset = false
      ∧ State.reset.motion.phase = .idle := by decide

theorem test_witness_AppendAndFlushLegs :
    gives (.appendLeg .a legBytes) State.reset
        (fun t => t.motion.queue = [leg] && State.reset.inReset = false) = true := by decide +kernel

theorem test_witness_GoStartsTheVehicle :
    queued.inReset = false ∧ queued.motion.phase = .idle ∧ queued.motion.queue = [leg]
      ∧ queued.permit.state = .granted ∧ queued.route.conditions = ⟨false, false, false⟩ := by decide

theorem test_witness_TimedPhasesEnd :
    ∀ ph ∈ [Phase.pre, .dwell, .post],
      let s := queued.onMotion fun m => { m with phase := ph, phaseTimer := some 0 }
      s.inReset = false ∧ s.motion.phase = ph ∧ s.motion.phaseTimer = some 0 := by decide

theorem test_witness_HoldReasons :
    cruising.inReset = false ∧ cruising.motion.holds = ⟨false, false, false⟩
      ∧ (heldOn ⟨true, false, true⟩ (some 0)).motion.holds.ride = true
      ∧ (heldOn ⟨true, false, true⟩ (some 0)).motion.sceneTimer = some 0 := by decide

theorem test_witness_HoldsBeginAndEnd :
    cruising.inReset = false ∧ (Port.a ≠ .b) ∧ cruising.motion.holds = ⟨false, false, false⟩
      ∧ holdingRide.inReset = false ∧ holdingRide.motion.holds = ⟨true, false, false⟩
      ∧ (heldOn ⟨false, true, false⟩ none).motion.holds = ⟨false, true, false⟩
      ∧ (heldOn ⟨false, false, true⟩ (some 0)).motion.holds = ⟨false, false, true⟩
      ∧ (heldOn ⟨false, false, true⟩ (some 0)).motion.sceneTimer = some 0 := by decide

theorem test_witness_Stops :
    cruising.inReset = false ∧ faulted.inReset = false ∧ cruising.motion.phase = .cruise
      ∧ faulted.motion.phase = .faulted
      ∧ ∀ kind ∈ [RunKind.turn 100 .short, .home],
        (turning ⟨kind, .fwd, 9, 0, none, 0, 0, none⟩).tt.run.map (·.kind) = some kind
          ∧ (turning ⟨kind, .fwd, 9, 0, none, 0, 0, none⟩).tt.phase ≠ .idle := by decide

theorem test_witness_MotionFaults :
    cruising.motion.phase ≠ .faulted ∧ faulted.motion.phase = .faulted
      ∧ faulted.inReset = false := by decide

theorem test_witness_TickRunsTheProfile :
    cruising.inReset = false ∧ cruising.settleMotion = cruising
      ∧ (closed cruising).motion.phase.moves = true
      ∧ (closed cruising).motion.current = some (onStep 3 6000) := by decide +kernel

theorem test_witness_TickClosesTheCounts :
    cruising.inReset = false ∧ cruising.settleMotion = cruising ∧ cruising.cues.engine ≠ .armed
      ∧ (let s := (segmentAt 40098).onRoute fun r => { r with delta := ⟨2, 2, 0⟩ }
        s.inReset = false ∧ s.settleMotion = s ∧ s.cues.engine = .armed
        ∧ ((s.slot 7).map fun c => (c.trigger, c.fired)) = some (40100, false)
        ∧ (s.setEngine .suppressed).cues.engine = .suppressed
        ∧ (s.setEngine .suppressed).settleMotion = s.setEngine .suppressed)
      ∧ (cruising.drive.enable = cruising.driveWanted ∧ cruising.seats.driveTold = cruising.drive.enable
        ∧ (cruising.drive.brakeRelease = true → cruising.motion.phase.drives = true)
        ∧ (cruising.motion.phase = .faulted → cruising.motion.servoLatch = false))
      ∧ cruising.motion.phase ≠ .faulted
      ∧ (let s := (faulted.onTurntable fun t => { t with phase := .homing }).setEnable true
        s.inReset = false ∧ s.settleMotion = s ∧ s.cues.engine ≠ .armed
        ∧ s.drive.enable = s.driveWanted ∧ s.seats.driveTold = s.drive.enable
        ∧ s.drive.brakeRelease = false ∧ s.motion.phase = .faulted ∧ s.motion.servoLatch = false
        ∧ s.drive.enable = true)
      ∧ Config.positionMin ≤ cruising.route.position
      ∧ (cruising.onRoute fun r => { r with position := Config.positionMax }).route.position
        ≤ Config.positionMax := by decide +kernel

theorem test_witness_LegEnds :
    ∀ ph ∈ [Phase.accel, .cruise, .decel, .holding, .stopping],
      (running ph (onStep 0 0)).inReset = false ∧ ph.moves = true := by decide

theorem test_witness_TurnToAndHome :
    permitted.inReset = false ∧ permitted.motion.phase ≠ .faulted ∧ permitted.permit.state = .granted
      ∧ permitted.tt.phase = .idle := by decide

theorem test_witness_TurntableEnds :
    (turning ⟨.turn 100 .short, .fwd, 0, 0, some 0, 64, 0, none⟩).inReset = false
      ∧ (turning ⟨.turn 100 .short, .fwd, 0, 0, some 0, 64, 0, none⟩).tt.phase = .turning := by decide

theorem test_witness_TickTurnsTheTable :
    (turning ⟨.turn 100 .short, .fwd, 233, 0, some 0, 63, 900, none⟩).inReset = false
      ∧ (turning ⟨.turn 100 .short, .fwd, 233, 0, some 0, 63, 900, none⟩).settleMotion
        = turning ⟨.turn 100 .short, .fwd, 233, 0, some 0, 63, 900, none⟩ := by decide +kernel

theorem test_witness_SeatChanges :
    (∀ s ∈ [barAt 92, barAt 93, barAt 94], s.inReset = false ∧ (s.seat 0).state = .confirmed)
      ∧ (∀ x ∈ [(SeatState.isOpen, PairReading.locked), (.locked, .unlocked), (.isOpen, .disagreement),
          (.locked, .disagreement), (.confirmed, .disagreement), (.confirmed, .unlocked),
          (.releasing, .unlocked), (.fault, .locked)],
        let s := seated { Seat.powerOn with state := x.1, candidate := some x.2, pairDue := true }
        s.inReset = false ∧ s.fitted 0 = true ∧ (s.seat 0).pairDue = true
          ∧ (s.seat 0).candidate = some x.2)
      ∧ (∀ x ∈ [SeatState.confirmed, .locked],
        let s := seated { Seat.powerOn with state := x, occupancyDue := true, occupancyCount := 50 }
        s.inReset = false ∧ s.fitted 0 = true ∧ (s.seat 0).occupancyDue = true
          ∧ s.permit.state ≠ .noPermit)
      ∧ (let s := ({ seated { Seat.powerOn with occupancyDue := true } with
            permit := .powerOn }).onTurntable fun t =>
          { t with phase := .homing, run := some ⟨.home, .fwd, 6144, 0, none, 0, 0, none⟩ }
        s.inReset = false ∧ s.tt.phase = .homing ∧ s.tt.run.any (·.kind = .home) = true
          ∧ s.permit.state ≠ .granted ∧ (s.seat 0).occupied = false)
      ∧ ∀ n ∈ [99, 100, 1499, 1500],
        let s := seated { Seat.powerOn with
          state := .releasing, solenoid := .pullIn, elapsed := some n, pullInTime := 100,
          holdLevel := 5, timeout := 1500 }
        s.inReset = false ∧ (s.seat 0).state = .releasing
          ∧ (s.seat 0).elapsed.any ((s.seat 0).pullInTime ≤ ·) = decide (100 ≤ n)
          ∧ (s.seat 0).elapsed.any ((s.seat 0).timeout ≤ ·) = decide (1500 ≤ n) := by decide +kernel

theorem test_witness_TickMovesTheRest :
    (barAt 96).inReset = false ∧ (barAt 96).settleMotion = barAt 96
      ∧ (playing clip16 (heardVoice 9 128)).settleMotion = playing clip16 (heardVoice 9 128) := by
  decide +kernel

theorem test_witness_SeatCommands :
    boarded.inReset = false ∧ boarded.motion.phase = .idle ∧ boarded.tt.phase = .idle
      ∧ seatFaulted.inReset = false := by decide

theorem test_witness_BeginCheck :
    boarded.inReset = false ∧ boarded.permit.generation + 1 = 1 ∧ boarded.motion.phase = .idle
      ∧ boarded.tt.phase = .idle := by decide

theorem test_witness_ConcurAndRenewConsent :
    permitted.inReset = false ∧ (18 : BitVec 16).toNat = permitted.permit.generation
      ∧ (after (.beginCheck .a) boarded).inReset = false
      ∧ (after (.beginCheck .a) boarded).permit.state = .awaitingConcur := by decide +kernel

theorem test_witness_PermitLosses :
    cruising.inReset = false ∧ Port.a ≠ .b ∧ Port.c ≠ .b
      ∧ decide (cruising.permit.state ≠ .noPermit) = true
      ∧ (∀ x ∈ [(TurnPhase.pre, RunKind.turn 100 .short, true), (.pre, .home, true),
          (.homing, .home, false)],
        let s := { cruising.onTurntable fun t =>
            { t with phase := x.1, run := some ⟨x.2.1, .fwd, 9, 0, none, 0, 0, none⟩ } with
          seats := { cruising.seats with
            seat := Vector.replicate 8 { Seat.powerOn with occupied := x.2.2 } } }
        s.inReset = false ∧ s.tt.phase = x.1 ∧ s.tt.run.isSome = true
          ∧ decide (s.permit.state ≠ .noPermit) = true ∧ (s.seat 7).occupied = x.2.2)
      ∧ (∀ n ∈ [0, 1], (let s := cruising.onPermit fun x => { x with consentRemaining := some n }
          (s.permit.state = .granted && s.permit.consentRemaining = some 0) = decide (n = 0))
        ∧ (let s := cruising.onPermit fun x =>
            { x with state := .awaitingConcur, concurRemaining := some n }
          (s.permit.state = .awaitingConcur && s.permit.concurRemaining = some 0)
            = decide (n = 0))) := by decide

theorem test_witness_CueTableCommands :
    gives (.loadCue .c ⟨63, 100, 0, 0, 0, 1, [Vector.replicate 10 0]⟩) State.reset
        (fun t => (t.slot 63).isSome && State.reset.inReset = false) = true := by decide +kernel

theorem test_witness_FireCue :
    (∀ a ∈ [CueAction.play playBytes, .stop 0 1, .gain 0 9 1, .zone 3 200 4, .effect 11 0 pulse300,
        .effect 11 1 pulse300, .turn 2048 0],
      (cueOf a).inReset = false ∧ (cueOf a).slot 63 = some (cueAt 100 none [a])
        ∧ (cueAt 100 none [a]).fired = false ∧ a.command.isSome = true)
      ∧ (CueAction.effect 11 2 pulse300).command = none
      ∧ (0 : BitVec 16) = 0 ∧ (1 : BitVec 16) ≠ 0 ∧ cruising.inReset = false
      ∧ cruising.motion.holds = ⟨false, false, false⟩
      ∧ holdingRide.motion.holds ≠ ⟨false, false, false⟩ := by decide +kernel

theorem test_witness_CuesOfASampleOrJump :
    rideSegment.cues.engine = .armed ∧ State.reset.cues.engine = .disarmed
      ∧ rideSegment.cuesDue 40098 40102 = [7] ∧ rideSegment.cuesDue 40170 40280 = [9, 12]
      ∧ (40170 : Int) < 40280
      ∧ (∀ i ∈ rideSegment.cuesDue 40170 40251, ∃ c, rideSegment.slot i = some c
          ∧ c.latest.any (· < 40251) = true)
      ∧ (rideSegment.onCues fun e => { e with engine := .suppressed }).cues.engine = .suppressed
      ∧ (rideSegment.slot 7).isSome = true := by
  refine ⟨by decide, by decide, by decide +kernel, by decide +kernel, by decide, ?_, by decide,
    by decide +kernel⟩
  intro i hi
  have h : rideSegment.cuesDue 40170 40251 = [9] := by decide +kernel
  rw [h, List.mem_singleton] at hi
  subst hi
  exact ⟨cueAt 40180 (some 40250) [.effect 2 0 ⟨0, 0, 0, 0, 255⟩], by decide +kernel, by decide⟩

theorem test_witness_SetEffect :
    State.reset.inReset = false ∧ (11 : Fin 12).val = (11 : Byte).toNat % 12
      ∧ (State.reset.channel 11).state ≠ .lockedOut := by decide

theorem test_witness_EffectIntervalEnds :
    (chain 0 1).inReset = false ∧ ((chain 0 1).channel 2).interval = some 0
      ∧ ((chain 0 1).channel 2).running.bind (·.link) = some (3 : Fin 12).val
      ∧ ((chain 0 1).channel 3).armed.isSome = true
      ∧ ((chain 0 1).channel 3).armed.map (·.mode) = some .pulse
      ∧ ((chain 0 1).channel 3).state ≠ .lockedOut
      ∧ (let s := (chain 0 1).onSettings fun x => { x with exclusivePairMask := 2 }
        s.exclusive (pairOf 3) = true ∧ pairOf 2 = pairOf 3 ∧ s.inReset = false)
      ∧ (((chain 0 1).setChannel 3 Channel.powerOn).channel 3).armed = none
      ∧ (((chain 0 1).setChannel 3 { Channel.powerOn with
          state := .lockedOut, armed := some ⟨.pulse, 400, 0, 0, none⟩ }).channel 3).state
        = .lockedOut := by decide +kernel

theorem test_witness_EffectMillisecondAndConflicts :
    (chain 1 3).inReset = false ∧ (chain 1 3).settleEffects = chain 1 3
      ∧ (∀ n ∈ [4, 5], let s := State.reset.onEffects fun b =>
          { b with conflicts := b.conflicts.set 5 n }
        s.inReset = false ∧ decide (s.effects.conflicts[5] < 5) = decide (n = 4))
      ∧ (∀ pair ∈ [5, 6], decide ((pair : Byte).toNat < 6) = decide (pair = 5))
      ∧ (let s := (State.reset.setChannel 10 { Channel.powerOn with state := .lockedOut }).setChannel 11
          { Channel.powerOn with state := .lockedOut }
        s.inReset = false ∧ ∀ i : Fin 12, (pairOf i).val = (5 : Byte).toNat →
          (s.channel i).state = .lockedOut)
      ∧ (63 : BitVec 32).toNat ≤ 63
      ∧ (let s := (State.reset.setChannel 10 { Channel.powerOn with state := .steadyOn }).setChannel 11
          { Channel.powerOn with state := .steadyOn }
        s.exclusive (pairOf 11) = false ∧ (s.channel 11).state.active = true
          ∧ (s.channel (partnerOf 11)).state.active = true)
      ∧ (State.reset.onSettings fun x => { x with exclusivePairMask := 32 }).exclusive 5 = true := by
  decide +kernel

theorem test_witness_ShowStop :
    cruising.inReset = false ∧ Port.b ≠ .c ∧ cruising.motion.phase.moves = true
      ∧ cruising.motion.phase = .cruise ∧ cruising.permit.state ≠ .noPermit
      ∧ cruising.motion.phase ≠ .faulted
      ∧ (∀ ph ∈ [Phase.accel, .decel, .holding, .pre, .held],
          (running ph (onStep 1 6000)).permit.state ≠ .noPermit
            ∧ (running ph (onStep 1 6000)).motion.phase = ph) := by decide

theorem test_witness_ShowSectionReset :
    (playing clip16 (heardVoice 9 128)).inReset = false := rfl

theorem test_witness_Play :
    (playing clip16 Voice.powerOn).inReset = false
      ∧ (playing clip16 Voice.powerOn).sound.mount.isSome = false := by decide

theorem test_witness_VoiceAndZoneCommands :
    (playing clip16 (heardVoice 9 128)).inReset = false ∧ (5 : Fin 6).val = (5 : Byte).toNat % 6 := by
  decide

theorem test_witness_Mount :
    gives (.mountClips .c) State.reset (fun t => t.sound.mountRequest && !t.inReset) = true := by
  decide +kernel

theorem test_witness_FlashRefills :
    (playing clip16 (heardVoice 9 128)).inReset = false
      ∧ (∀ n ∈ [0, 255, 256], (refilling n).inReset = false
        ∧ (refilling n).sound.flash = some ⟨.voice 0, 4096, 512, 256, n⟩
        ∧ (refilling n).clipOn 0 = some clip16) := by decide +kernel

theorem test_witness_SamplePeriod :
    (playing clip16 (heardVoice 9 128)).inReset = false
      ∧ (playing clip16 (heardVoice 9 128)).settleSamples = playing clip16 (heardVoice 9 128) := by
  decide +kernel

theorem test_witness_VoicePassesAndFadesEnd :
    (playing clip16 { heardVoice 9 0 with cursor := 1000 }).inReset = false
      ∧ ((playing clip16 { heardVoice 9 0 with cursor := 1000 }).clipOn 0).any (·.length = 1000) = true
      ∧ ((playing clip16 { heardVoice 9 0 with cursor := 1000 }).voice 0).plays = some 1
      ∧ ((playing clip16 { heardVoice 9 0 with
          state := .fadingOut, fade := some .stop, fadeDue := true }).voice 0).gain = 0 := by
  decide +kernel

theorem test_witness_OutputLines :
    let s := cruising.onDrive fun d => { d with plan := d.plan.set .left ⟨60, 60, 0⟩ }
    s.inReset = false ∧ 999999 < 1000000
      ∧ (let x := State.reset.onSettings fun x => { x with exclusivePairMask := 33 }
        (∀ p, x.exclusive p = true → ¬ ((x.channel (lowerOf p)).state.active = true
          ∧ (x.channel (upperOf p)).state.active = true))
          ∧ x.exclusive 0 = true ∧ x.exclusive 5 = true)
      ∧ ({ State.reset with inReset := true }).inReset = true := by decide +kernel

/-- The state every `StepsKeep` witness steps from: reset with one command waiting. -/
def waiting (c : Instr) : State := { State.reset with pending := [c] }

theorem step_waiting {c : Instr} (h : gives c State.reset (fun _ => true) = true) :
    step (waiting c) = .next (after c State.reset) := next_after h

theorem test_witness_StepsKeepPortsSound :
    (waiting (.go .a)).PortsSound
      ∧ step (waiting (.go .a)) = .next (after (.go .a) State.reset) :=
  ⟨fun p => by cases p <;> exact ⟨by decide, by decide⟩, step_waiting (by decide +kernel)⟩

theorem test_witness_StepsKeepDriveSafe :
    (waiting (.homeTurntable .a)).DriveSafe
      ∧ step (waiting (.homeTurntable .a)) = .next (after (.homeTurntable .a) State.reset) :=
  ⟨⟨by decide, by decide, by decide, by decide⟩, step_waiting (by decide +kernel)⟩

theorem test_witness_StepsKeepPermitSound :
    (waiting (.beginCheck .a)).PermitSound
      ∧ step (waiting (.beginCheck .a)) = .next (after (.beginCheck .a) State.reset)
      ∧ (after (.beginCheck .a) boarded).permit.state = .awaitingConcur :=
  ⟨fun h => absurd rfl h, step_waiting (by decide +kernel), by decide +kernel⟩

theorem test_witness_StepsKeepRunsShaped :
    (waiting (.homeTurntable .a)).RunsShaped
      ∧ step (waiting (.homeTurntable .a)) = .next (after (.homeTurntable .a) State.reset) :=
  ⟨by simp [State.RunsShaped, waiting, State.reset, MotionGenerator.powerOn, Turntable.powerOn,
      Phase.moves, Phase.timed], step_waiting (by decide +kernel)⟩

theorem test_witness_StepsKeepStreamSound :
    (waiting (.mountClips .c)).StreamSound
      ∧ step (waiting (.mountClips .c)) = .next (after (.mountClips .c) State.reset) := by
  refine ⟨⟨by decide +kernel, ?_, ?_, by decide⟩, step_waiting (by decide +kernel)⟩
  · intro r h
    cases (show none = some r from h)
  · intro h
    cases (show false = true from h)

theorem test_witness_StepsKeepTablesInBounds :
    (waiting (.loadMarker .a 12 40000 300 0)).Bounded
      ∧ (waiting (.loadMarker .a 12 40000 300 0)).RampsRising
      ∧ (waiting (.loadMarker .a 12 40000 300 0)).SettingsInForce
      ∧ step (waiting (.loadMarker .a 12 40000 300 0))
        = .next (after (.loadMarker .a 12 40000 300 0) State.reset) :=
  ⟨⟨by decide, by decide, by decide, by decide⟩, ⟨by decide +kernel, by decide +kernel, by decide⟩,
    ⟨by decide, by decide, fun i => by cases i <;> decide, by decide, by decide⟩,
    step_waiting (by decide +kernel)⟩

theorem test_witness_StepsKeepPairsExclusive :
    (waiting (.writeExclusivePairMask .c 63)).PairsExclusive
      ∧ step (waiting (.writeExclusivePairMask .c 63))
        = .next (after (.writeExclusivePairMask .c 63) State.reset) :=
  ⟨fun p h => absurd h (by revert p; decide), step_waiting (by decide +kernel)⟩

end Sys2Proof.Tests
end

section
/-! The marker commands and Zero Route (chapter 01), with the shape of a command that its owning block
judges. -/

namespace Sys2Proof.Machine

/-! ## Reading frames -/

/-- A block that a frame does not name is the same. -/
theorem SameBut.same {a : List Block} {s t : State} (h : SameBut a s t) (b : Block)
    (k : b ∉ a := by decide) : b.same s t :=
  (h b).resolve_left k

/-- A refusal seen past the framing before it and the slot after it is the same refusal. -/
theorem RefusedOn.framed {p : Port} {r : Reason} {code : Byte} {s u v t : State}
    (hu : SameBut [.framing] s u) (h : RefusedOn p r code u v) (ht : SameBut [.framing] v t) :
    RefusedOn p r code s t := by
  obtain ⟨hlast, hevents, hattn, hothers, hframe⟩ := h
  have before : ∀ q, (u.ports.get q).record = (s.ports.get q).record := hu.same .records
  have after : ∀ q, (t.ports.get q).record = (v.ports.get q).record := ht.same .records
  have mask : (u.ports.get p).mask = (s.ports.get p).mask := ((hu.same .masks) p).1
  have hb := before p
  have ha := after p
  simp only [PortState.record, Prod.mk.injEq] at hb ha
  obtain ⟨eventsBefore, -, -⟩ := hb
  obtain ⟨eventsAfter, attnAfter, lastAfter⟩ := ha
  refine ⟨lastAfter.trans hlast, ?_, ?_, ?_, SameBut_seq (SameBut_seq (c := [.framing, .records])
    hu hframe) ht⟩
  · rw [eventsAfter, hevents, eventsBefore]
  · rw [attnAfter, eventsAfter, hattn, mask]
  · intro q hq
    rw [after q, hothers q hq, before q]

/-! ## A judged command -/

/-- A command with a rights test and a judgement, outside RESET. The judgement is made on a state that differs
from the one before in the framing alone; a refusal of it is one of R196, and what it answers gets
no more than its slot. So a fact about the state after holds when it follows from these. -/
theorem judgedCommand_next {ports : List Port} {p : Port} {code : Byte}
    {j : State → Except Reason State} {s : State} {Q : State → Prop} {noRights : Prop}
    [Decidable noRights] (h : s.inReset = false)
    (judged : ∀ u t, SameBut [.framing] s u
      → (∀ r, j u = .error r → RefusedOn p r code s t)
      → (∀ v, j u = .ok v → SameBut [.framing] v t) → Q t)
    (rights : noRights ↔ p ∉ ports := by simp) :
    ∃ t, commandTaken p (·.allowed ports p code (·.judged p code j)) s = .next t
      ∧ if noRights then RefusedOn p .rights code s t else Q t := by
  have framed := onPort_framing_outside s p (·.commandFramed) (by simp) (by simp) (by simp)
  have slot (v : State) : SameBut [.framing] v (v.onPort p (·.slotBegun)) :=
    onPort_framing_outside v p (·.slotBegun) (by simp) (by simp) (by simp)
  refine ⟨_, commandTaken_next h, ?_⟩
  split
  · next hp =>
    rw [allowed_no (rights.mp hp)]
    exact RefusedOn.framed framed (refuse_refusedOn _ p _ code) (slot _)
  · next hp =>
    rw [allowed_yes (not_not.mp (mt rights.mpr hp))]
    refine judged _ _ framed (fun r hr => ?_) (fun v hv => ?_)
    · rw [judged_error hr]
      exact RefusedOn.framed framed (refuse_refusedOn _ p r code) (slot _)
    · rw [judged_ok hv]
      exact slot v

/-- What an accepted judgement leaves alone, with the framing around it. -/
theorem SameBut.framed {a : List Block} {s u v t : State} (hu : SameBut [.framing] s u)
    (h : SameBut a u v) (ht : SameBut [.framing] v t) : SameBut (.framing :: a) s t :=
  SameBut_mono (SameBut_trans (SameBut_trans hu h) ht) (by intro b; simp; tauto)

/-- The route after an accepted judgement that changes the route alone. -/
theorem route_framed {f : RouteCounter → RouteCounter} {s u t : State}
    (hu : SameBut [.framing] s u) (ht : SameBut [.framing] (u.onRoute f) t) :
    t.route = f s.route := by
  have before : u.route = s.route := hu.same .route
  have after : t.route = f u.route := ht.same .route
  rw [after, before]

/-! ## The entries of the marker table (R9, R10) -/

/-- After an insertion its id finds the new entry, and every other id what it found before. -/
theorem find_insertMarker (m : Marker) (l : List Marker) (j : Nat) :
    (insertMarker m l).find? (·.id = j) = if m.id = j then some m else l.find? (·.id = j) := by
  induction l with
  | nil => by_cases hj : m.id = j <;> simp [insertMarker, hj]
  | cons x l ih =>
    unfold insertMarker
    split
    · by_cases hj : m.id = j <;> simp [hj]
    · split
      · next same => by_cases hj : m.id = j <;> simp [← same, hj]
      · next other => by_cases hx : x.id = j <;> simp_all

/-- What an id finds in a Route Counter whose table has taken an entry (R9). -/
theorem entry_insertMarker (r : RouteCounter) (m : Marker) (j : Nat) :
    { r with markers := insertMarker m r.markers }.entry j
      = if m.id = j then some m else r.entry j :=
  find_insertMarker m r.markers j

/-- After a deletion the deleted id finds nothing, and every other id what it found before. -/
theorem entry_filter (r : RouteCounter) (i j : Nat) :
    { r with markers := r.markers.filter (·.id ≠ i) }.entry j
      = if j = i then none else r.entry j := by
  simp only [RouteCounter.entry, List.find?_filter]
  split
  · next h => subst h; simp
  · next h =>
    congr 1
    funext x
    by_cases hx : x.id = j <;> simp [hx, h]

/-! ## The judgements of the marker commands -/

theorem markerIdOk_eq (id : Byte) : markerIdOk id = decide (¬ (id = 0 ∨ id = 255)) := by
  revert id; decide

theorem markerKindOf_eq (kind : Byte) :
    markerKindOf kind = if 1 < kind.toNat then none
      else some (if kind = 0 then .correct else .check) := by
  revert kind; decide

/-- Load Marker's tests in their order, and the entry that it puts in the table. -/
theorem loadMarkerJudged_eq (id : Byte) (x : BitVec 32) (tol : BitVec 16) (kind : Byte) (s : State) :
    s.loadMarkerJudged id x tol kind =
      if id = 0 ∨ id = 255 ∨ 1 < kind.toNat then .error .range
      else if s.route.entry id.toNat = none ∧ 32 ≤ s.route.markers.length then .error .full
      else .ok (s.onRoute fun r =>
        { r with markers := insertMarker
                   ⟨id.toNat, x.toInt, tol.toNat, if kind = 0 then .correct else .check⟩ r.markers }) := by
  unfold State.loadMarkerJudged
  rw [markerIdOk_eq, markerKindOf_eq]
  by_cases hid : id = 0 ∨ id = 255
  · rw [if_pos (hid.imp_right .inl), decide_eq_false (not_not.mpr hid)]
  · rw [decide_eq_true hid]
    by_cases hk : 1 < kind.toNat
    · rw [if_pos hk, if_pos (.inr (.inr hk))]
    · have inRange : ¬ (id = 0 ∨ id = 255 ∨ 1 < kind.toNat) := by tauto
      rw [if_neg hk, if_neg inRange]
      simp [Config.markerCapacity]

/-! ## The re-arm of the Cue Engine (R136, R137) -/

/-- A vector changed member by member over a list of its indexes: each listed member is changed once. -/
theorem get_foldl_set {α : Type} {n : Nat} (f : α → α) (l : List (Fin n)) (hl : l.Nodup)
    (v : Vector α n) (j : Fin n) :
    (l.foldl (fun w i => w.set i (f w[i])) v)[j] = if j ∈ l then f v[j] else v[j] := by
  induction l generalizing v with
  | nil => simp
  | cons i l ih =>
    obtain ⟨hi, hl⟩ := List.nodup_cons.mp hl
    rw [List.foldl_cons, ih hl, Vector_get_set]
    by_cases hij : i = j
    · subst hij; simp [hi]
    · simp [hij, Ne.symm hij]

theorem slot_clearFired (s : State) (i : Fin 64) :
    s.clearFired.slot i = (s.slot i).map fun c => { c with fired := false } :=
  (get_foldl_set _ allSlots (List.nodup_finRange 64) _ i).trans (if_pos (List.mem_finRange i))

/-- Re-arming clears the fired flags and takes SUPPRESSED to ARMED. -/
theorem cues_rearm (s : State) :
    s.rearm.cues = { s.cues with
      slots := s.clearFired.cues.slots
      engine := if s.cues.engine = .suppressed then .armed else s.cues.engine } := by
  by_cases h : s.cues.engine = .suppressed <;> simp [State.rearm, State.clearFired, h]

theorem rearm_outside (s : State) : SameBut [.cues] s s.rearm :=
  SameBut_seq (onCues_outside _ _) (onCues_outside _ _)

/-! ## The four commands -/

/-- Load Marker by R9. -/
theorem exec_loadMarker_next (p : Port) (id : Byte) (x : BitVec 32) (tol : BitVec 16) (kind : Byte)
    (s : State) (h : s.inReset = false) :
    ∃ t, exec (.loadMarker p id x tol kind) s = .next t
      ∧ if p ≠ .a then RefusedOn p .rights 0x10 s t
        else if id = 0 ∨ id = 255 ∨ 1 < kind.toNat then RefusedOn p .range 0x10 s t
        else if s.route.entry id.toNat = none ∧ 32 ≤ s.route.markers.length then
          RefusedOn p .full 0x10 s t
        else
          t.route.entry id.toNat = some ⟨id.toNat, x.toInt, tol.toNat,
            if kind = 0 then .correct else .check⟩
          ∧ (∀ j : Fin 256, j.val ≠ id.toNat → t.route.entry j = s.route.entry j)
          ∧ t.route = { s.route with markers := t.route.markers }
          ∧ SameBut [.framing, .route] s t := by
  refine judgedCommand_next h fun u t hu refused accepted => ?_
  have sameRoute : u.route = s.route := hu.same .route
  simp only [loadMarkerJudged_eq, sameRoute] at refused accepted
  split
  · next range => exact refused _ (if_pos range)
  next range =>
  split
  · next full => exact refused _ (by rw [if_neg range, if_pos full])
  next full =>
  have ht := accepted _ (by rw [if_neg range, if_neg full])
  rw [route_framed hu ht]
  refine ⟨?_, fun j hj => ?_, rfl, SameBut.framed hu (onRoute_outside _ _) ht⟩
  · rw [entry_insertMarker, if_pos rfl]
  · rw [entry_insertMarker, if_neg (Ne.symm hj)]

/-- Delete Marker by R10. -/
theorem exec_deleteMarker_next (p : Port) (id : Byte) (s : State) (h : s.inReset = false) :
    ∃ t, exec (.deleteMarker p id) s = .next t
      ∧ if p ≠ .a then RefusedOn p .rights 0x11 s t
        else if s.motion.legs.any (fun l => l.seek.any (·.marker = id.toNat)) then
          RefusedOn p .state 0x11 s t
        else
          t.route.entry id.toNat = none
          ∧ (∀ j : Fin 256, j.val ≠ id.toNat → t.route.entry j = s.route.entry j)
          ∧ t.route = { s.route with markers := t.route.markers }
          ∧ SameBut [.framing, .route] s t := by
  refine judgedCommand_next h fun u t hu refused accepted => ?_
  have sameMotion : u.motion = s.motion := hu.same .motion
  simp only [State.deleteMarkerJudged, sameMotion] at refused accepted
  split
  · next sought => exact refused _ (if_pos sought)
  next sought =>
  have ht := accepted _ (if_neg sought)
  rw [route_framed hu ht]
  refine ⟨?_, fun j hj => ?_, rfl, SameBut.framed hu (onRoute_outside _ _) ht⟩
  · rw [entry_filter, if_pos rfl]
  · rw [entry_filter, if_neg hj]

/-- Clear Markers by R10. -/
theorem exec_clearMarkers_next (p : Port) (s : State) (h : s.inReset = false) :
    ∃ t, exec (.clearMarkers p) s = .next t
      ∧ if p ≠ .a then RefusedOn p .rights 0x12 s t
        else if s.motion.legs.any (·.seek.isSome) then RefusedOn p .state 0x12 s t
        else t.route = { s.route with markers := [] } ∧ SameBut [.framing, .route] s t := by
  refine judgedCommand_next h fun u t hu refused accepted => ?_
  have sameMotion : u.motion = s.motion := hu.same .motion
  simp only [State.clearMarkersJudged, sameMotion] at refused accepted
  split
  · next sought => exact refused _ (if_pos sought)
  next sought =>
  have ht := accepted _ (if_neg sought)
  exact ⟨route_framed hu ht, SameBut.framed hu (onRoute_outside _ _) ht⟩

/-- Zero Route by R15. -/
theorem exec_zeroRoute_next (p : Port) (s : State) (h : s.inReset = false) :
    ∃ t, exec (.zeroRoute p) s = .next t
      ∧ if p ≠ .a then RefusedOn p .rights 0x13 s t
        else if s.motion.phase ≠ .idle then RefusedOn p .state 0x13 s t
        else
          t.route = { s.route with position := 0, mismatches := 0, lost := false }
          ∧ (∀ i, t.slot i = (s.slot i).map fun c => { c with fired := false })
          ∧ t.cues.engine = (if s.cues.engine = .suppressed then .armed else s.cues.engine)
          ∧ t.cues.log = s.cues.log ∧ t.cues.outcomes = s.cues.outcomes
          ∧ SameBut [.framing, .route, .cues] s t := by
  refine judgedCommand_next h fun u t hu refused accepted => ?_
  have sameMotion : u.motion = s.motion := hu.same .motion
  have sameRoute : u.route = s.route := hu.same .route
  have sameCues : u.cues = s.cues := hu.same .cues
  simp only [State.zeroRouteJudged, sameMotion] at refused accepted
  split
  · next moving => exact refused _ (if_pos moving)
  next moving =>
  have ht := accepted _ (if_neg moving)
  have route : t.route = _ := ht.same .route
  have cues : t.cues = _ := ht.same .cues
  rw [cues_rearm, State.onRoute_cues, sameCues] at cues
  refine ⟨?_, fun i => ?_, ?_, ?_, ?_, SameBut.framed hu
    (SameBut_seq (onRoute_outside _ _) (rearm_outside _)) ht⟩
  · rw [route, (rearm_outside _).same .route, State.onRoute_route, sameRoute]
    rfl
  · have slots := slot_clearFired (u.onRoute fun r => { r.found with position := 0 }) i
    simp only [State.slot, State.onRoute_cues, sameCues] at slots
    simp only [State.slot, cues, slots]
  · rw [cues]
  · rw [cues]
  · rw [cues]

/-- Settles O19: the four commands, one by one. -/
theorem markerTableAndZeroRoute : Obligations.MarkerTableAndZeroRoute :=
  ⟨fun p id x tol kind s h => ⟨exec_loadMarker_next p id x tol kind s h,
    exec_deleteMarker_next p id s h, exec_clearMarkers_next p s h⟩,
    fun p s h => exec_zeroRoute_next p s h⟩

end Sys2Proof.Machine
end

section
/-! Concur and Renew Consent (chapter 07), with what the blocks that answer a loss of the permit
keep. -/

namespace Sys2Proof.Machine

/-! ## Commands without a judgement, events seen past the framing -/

/-- A command with a rights test and an effect of its own, outside RESET. The effect starts from a
state that differs from the one before in the framing alone, and what it answers gets no more than its
slot. -/
theorem allowedCommand_next {ports : List Port} {p : Port} {code : Byte} {f : State → State}
    {s : State} {Q : State → Prop} {noRights : Prop} [Decidable noRights] (h : s.inReset = false)
    (taken : ¬ noRights → ∀ u t, SameBut [.framing] s u → SameBut [.framing] (f u) t → Q t)
    (rights : noRights ↔ p ∉ ports := by simp) :
    ∃ t, commandTaken p (·.allowed ports p code f) s = .next t
      ∧ if noRights then RefusedOn p .rights code s t else Q t := by
  have framed := onPort_framing_outside s p (·.commandFramed) (by simp) (by simp) (by simp)
  have slot (v : State) : SameBut [.framing] v (v.onPort p (·.slotBegun)) :=
    onPort_framing_outside v p (·.slotBegun) (by simp) (by simp) (by simp)
  refine ⟨_, commandTaken_next h, ?_⟩
  split
  · next hp =>
    rw [allowed_no (rights.mp hp)]
    exact RefusedOn.framed framed (refuse_refusedOn _ p _ code) (slot _)
  · next hp =>
    rw [allowed_yes (not_not.mp (mt rights.mpr hp))]
    exact taken hp _ _ framed (slot _)

/-- A latched event is told to every port. -/
theorem latch_told (s : State) (e : Event) : Told [e] [] s (s.latch e) := by
  intro p
  simp

/-- A change of the permit tells the ports nothing. -/
theorem Told.onPermit {es : List Event} {phases : List Phase} {f : Permit → Permit} {s t : State}
    (h : Told es phases (s.onPermit f) t) : Told es phases s t := h

/-- Events told past the framing before them and the slot after them are the same events. -/
theorem Told.framed {es : List Event} {phases : List Phase} {s u v t : State}
    (hu : SameBut [.framing] s u) (h : Told es phases u v) (ht : SameBut [.framing] v t) :
    Told es phases s t := by
  intro p
  obtain ⟨hevents, hattn, hlast⟩ := h p
  obtain ⟨mask, watch⟩ := (hu.same .masks) p
  have before := (hu.same .records) p
  have after := (ht.same .records) p
  simp only [PortState.record, Prod.mk.injEq] at before after
  obtain ⟨eventsBefore, attnBefore, lastBefore⟩ := before
  obtain ⟨eventsAfter, attnAfter, lastAfter⟩ := after
  have watches : (u.ports.get p).watches = (s.ports.get p).watches := by
    funext ph
    rw [PortState.watches, PortState.watches, watch]
  rw [watches, eventsBefore] at hevents
  rw [watches, mask, attnBefore] at hattn
  exact ⟨eventsAfter.trans hevents, by rw [attnAfter, eventsAfter, hattn],
    lastAfter.trans (hlast.trans lastBefore)⟩

/-! ## Events that a port's set holds -/

/-- The event is in the port's set (R197). -/
def PortState.Latched (x : PortState) (e : Event) : Prop := x.events &&& e.flag ≠ 0

theorem flag_ne_zero (e : Event) : e.flag ≠ 0 := by cases e <;> decide

theorem latched_latch_same (x : PortState) (e : Event) : (x.latch e).Latched e := by
  have absorbed : (x.events ||| e.flag) &&& e.flag = e.flag := by
    ext i
    simpa using .inr
  rw [PortState.Latched, events_latch, absorbed]
  exact flag_ne_zero e

theorem latched_latch {x : PortState} {e : Event} (d : Event) (h : x.Latched e) :
    (x.latch d).Latched e := by
  rw [PortState.Latched, events_latch]
  refine fun gone => h (BitVec.eq_of_getElem_eq fun i hi => ?_)
  have bit : ((x.events ||| d.flag) &&& e.flag)[i] = false := by simp [gone]
  simp only [BitVec.getElem_and, BitVec.getElem_or] at bit ⊢
  grind

/-! ## What the reactions to a loss keep -/

/-- What every block's reaction to a loss of the permit keeps: each port's last refusal, the events
in its set, and the records of the seats. -/
structure Reaction (s t : State) : Prop where
  refusal : ∀ q, (t.ports.get q).lastRefusal = (s.ports.get q).lastRefusal
  latched : ∀ q e, (s.ports.get q).Latched e → (t.ports.get q).Latched e
  seat : t.seats.seat = s.seats.seat

namespace Reaction

theorem refl (s : State) : Reaction s s := ⟨fun _ => rfl, fun _ _ => id, rfl⟩

theorem trans {s t u : State} (h : Reaction s t) (k : Reaction t u) : Reaction s u :=
  ⟨fun q => (k.refusal q).trans (h.refusal q), fun q e => k.latched q e ∘ h.latched q e,
    k.seat.trans h.seat⟩

theorem ite {s t u : State} {c : Prop} [Decidable c] (h : Reaction s t) (k : Reaction s u) :
    Reaction s (if c then t else u) := by
  split <;> assumption

theorem foldl {α : Type} {f : State → α → State} (h : ∀ s x, Reaction s (f s x)) (l : List α)
    (s : State) : Reaction s (l.foldl f s) := by
  induction l generalizing s with
  | nil => exact refl s
  | cons x l ih => exact (h s x).trans (ih _)

/-- What names neither the records nor the seats keeps them. -/
theorem outside {a : List Block} {s t : State} (h : SameBut a s t)
    (records : .records ∉ a := by decide) (seats : .seats ∉ a := by decide) : Reaction s t := by
  have record (q : Port) := h.same .records records q
  simp only [PortState.record, Prod.mk.injEq] at record
  refine ⟨fun q => (record q).2.2, fun q e he => ?_, congrArg (·.seat) (h.same .seats seats)⟩
  rw [PortState.Latched, (record q).1]
  exact he

end Reaction

theorem latch_reaction (s : State) (e : Event) : Reaction s (s.latch e) := by
  refine ⟨fun q => ?_, fun q d hd => ?_, rfl⟩
  · simp
  · rw [State.latch_ports, PerPort_get_map]
    exact latched_latch e hd

theorem latchEntry_reaction (s : State) (ph : Phase) : Reaction s (s.latchEntry ph) := by
  refine ⟨fun q => ?_, fun q d hd => ?_, rfl⟩ <;> rw [State.latchEntry_ports, PerPort_get_map]
  · split <;> rfl
  · split
    · exact latched_latch _ hd
    · exact hd

theorem enterPhase_reaction (s : State) (ph : Phase) : Reaction s (s.enterPhase ph) :=
  .ite (.refl s) ((Reaction.outside (onMotion_outside s _)).trans (latchEntry_reaction _ ph))

/-! ### Drive enable, POST and the soft stop -/

/-- Telling the Seat Monitor of drive enable leaves the seats as they are. -/
theorem setEnable_reaction (s : State) (on : Bool) : Reaction s (s.setEnable on) :=
  ⟨fun _ => rfl, fun _ _ => id, rfl⟩

theorem driveFall_reaction (s : State) : Reaction s s.driveFall :=
  ((Reaction.foldl (fun t i => .outside (establish_outside t i)) allAxes s).trans
    (.ite (.outside (onDrive_outside _ _)) (.refl _))).trans (setEnable_reaction _ _)

theorem rederive_reaction (s : State) : Reaction s s.rederive :=
  .ite (.refl s) (.ite
    ((Reaction.outside (onDrive_outside s _)).trans (setEnable_reaction _ _))
    (driveFall_reaction s))

theorem finishPost_reaction (s : State) : Reaction s s.finishPost :=
  (((Reaction.outside (onDrive_outside s _)).trans (.outside (onMotion_outside _ _))).trans
    (enterPhase_reaction _ _)).trans (rederive_reaction _)

theorem enterPost_reaction (s : State) : Reaction s s.enterPost :=
  have entered := (Reaction.outside (onMotion_outside s fun m =>
    { m with current := none, retreat := none, phaseTimer := some s.settings.postTime })).trans
    (enterPhase_reaction _ .post)
  .ite (entered.trans (finishPost_reaction _)) entered

theorem stopCompletes_reaction (s : State) (cause : StopCause) :
    Reaction s (s.stopCompletes cause) :=
  ((Reaction.outside (onMotion_outside s _)).trans (latch_reaction _ _)).trans
    (enterPost_reaction _)

theorem softStop_reaction (s : State) (cause : StopCause) : Reaction s (s.softStop cause) := by
  unfold State.softStop
  match s.motion.phase with
  | .accel | .cruise | .decel | .holding =>
    exact (Reaction.outside (onMotion_outside s _)).trans (enterPhase_reaction _ _)
  | .pre | .dwell | .held =>
    exact (Reaction.outside (onMotion_outside s _)).trans (stopCompletes_reaction _ cause)
  | .idle | .post | .stopping | .faulted => exact .refl s

/-! ### The show stop -/

theorem endVoice_reaction (s : State) (v : Fin 6) (why : EndReason) :
    Reaction s (s.endVoice v why) :=
  ((Reaction.outside (setVoice_outside s v _)).trans (.outside (abandonRefill_outside _ v))).trans
    (latch_reaction _ _)

theorem startVoice_reaction (s : State) (v : Fin 6) (a : PlaySpec) :
    Reaction s (s.startVoice v a) :=
  (Reaction.ite (.refl s) (endVoice_reaction s v .cut)).trans (.outside (setVoice_outside _ v _))

theorem showStopVoice_reaction (s : State) (v : Fin 6) : Reaction s (s.showStopVoice v) := by
  unfold State.showStopVoice
  dsimp only
  match (s.voice v).state with
  | .playing | .fadingOut => exact .outside (setVoice_outside s v _)
  | .paused => exact endVoice_reaction s v .showStop
  | .idle => exact .refl s

theorem announce_reaction (s : State) (cause : ShowCause) : Reaction s (s.announce cause) :=
  have recorded (t : State) (f : SoundUnit → SoundUnit) : Reaction t (t.onSound f) :=
    .outside (onSound_outside t f)
  .ite (recorded s _) (.ite (recorded s _) (.ite (recorded s _)
    ((startVoice_reaction s announcer _).trans (recorded _ _))))

theorem showStop_reaction (s : State) (cause : ShowCause) : Reaction s (s.showStop cause) :=
  (((Reaction.outside (cueSuppress_outside s)).trans (.foldl showStopVoice_reaction _ _)).trans
    (announce_reaction _ cause)).trans (.outside (effectShowStop_outside _))

/-! ### The turntable -/

theorem turnEnds_reaction (s : State) (target : Nat) (mode : TurnMode) (o : TurnOutcome) :
    Reaction s (s.turnEnds target mode o) :=
  (Reaction.outside (onTurntable_outside s _)).trans (latch_reaction _ _)

theorem homeLosesPermit_reaction (s : State) : Reaction s s.homeLosesPermit :=
  (((Reaction.outside (endPlan_outside s _)).trans (.outside (onTurntable_outside _ _))).trans
    (latch_reaction _ _)).trans (rederive_reaction _)

theorem turntablePermitLoss_reaction (s : State) : Reaction s s.turntablePermitLoss := by
  unfold State.turntablePermitLoss
  split
  case h_1 => exact .outside (onTurntable_outside s _)
  case h_2 =>
    split
    · exact (turnEnds_reaction s _ _ _).trans (rederive_reaction _)
    · exact .ite (.refl s) (homeLosesPermit_reaction s)
  case h_3 => exact .ite (.refl s) (homeLosesPermit_reaction s)
  case h_4 => exact .refl s

/-! ### The loss itself (R115) -/

theorem motionPermitLoss_reaction (s : State) : Reaction s s.motionPermitLoss := by
  unfold State.motionPermitLoss
  match s.motion.phase with
  | .accel | .cruise | .decel | .holding | .pre | .held =>
    exact (softStop_reaction s _).trans (showStop_reaction _ _)
  | .dwell => exact softStop_reaction s _
  | .stopping | .idle | .post | .faulted => exact .refl s

section
variable {s : State} (cause : LossCause) (held : s.permit.state ≠ .noPermit)
include held

/-- A held permit is lost by steps 1 to 3 of R115 and PERMIT_LOST; the rest is reaction to it. -/
theorem permitLoss_held : s.permitLoss cause =
    (((s.onPermit (·.dropped cause)).latch .permitLost).motionPermitLoss).turntablePermitLoss :=
  if_neg held

theorem permitLoss_afterLatch :
    Reaction ((s.onPermit (·.dropped cause)).latch .permitLost) (s.permitLoss cause) := by
  rw [permitLoss_held cause held]
  exact (motionPermitLoss_reaction _).trans (turntablePermitLoss_reaction _)

theorem permitLoss_permit : (s.permitLoss cause).permit = s.permit.dropped cause := by
  rw [permitLoss_held cause held]
  exact ((turntablePermitLoss_outside _).same .permit).trans
    ((motionPermitLoss_outside _).same .permit)

theorem permitLoss_reaction : Reaction s (s.permitLoss cause) :=
  ((Reaction.outside (onPermit_outside s _)).trans (latch_reaction _ _)).trans
    (permitLoss_afterLatch cause held)

theorem permitLoss_latched (q : Port) :
    ((s.permitLoss cause).ports.get q).Latched .permitLost := by
  refine (permitLoss_afterLatch cause held).latched q .permitLost ?_
  rw [State.latch_ports, PerPort_get_map]
  exact latched_latch_same _ _

end

/-! ## Concur and Renew Consent -/

/-- A Concur refused RANGE that ends the permit awaiting it (R120, line 2). -/
theorem concurMismatch_next {p : Port} {code : Byte} {s u t : State} (hu : SameBut [.framing] s u)
    (ht : SameBut [.framing] ((u.refuse p .range code).permitLoss .concurMismatch) t)
    (held : s.permit.state ≠ .noPermit) :
    t.permit = s.permit.dropped .concurMismatch
      ∧ (t.ports.get p).lastRefusal = some ⟨.range, code⟩ ∧ (t.ports.get p).Latched .refused
      ∧ (∀ q, (t.ports.get q).Latched .permitLost)
      ∧ t.seats.seat = s.seats.seat ∧ t.route = s.route ∧ t.settings = s.settings := by
  have permit : u.permit = s.permit := hu.same .permit
  have heldThen : (u.refuse p .range code).permit.state ≠ .noPermit := by
    rw [State.refuse_permit, permit]
    exact held
  have slot : Reaction _ t := .outside ht
  have loss := (permitLoss_reaction .concurMismatch heldThen).trans slot
  have frame := SameBut_trans hu (SameBut_trans (refuse_outside u p .range code)
    (SameBut_trans (permitLoss_outside _ .concurMismatch) ht))
  have refused : ((u.refuse p .range code).ports.get p).Latched .refused := by
    rw [State.refuse_ports, PerPort_get_modify, if_pos rfl]
    exact latched_latch_same _ _
  refine ⟨?_, ?_, loss.latched p .refused refused, fun q => ?_, ?_, frame.same .route,
    frame.same .settings⟩
  · rw [ht.same .permit, permitLoss_permit _ heldThen, State.refuse_permit, permit]
  · obtain ⟨last, -⟩ := refuse_refusedOn u p .range code
    rw [loss.refusal p, last]
  · exact slot.latched q _ (permitLoss_latched _ heldThen q)
  · rw [loss.seat, State.refuse_seats, hu.same .seats]

/-- Concur by R120. -/
theorem exec_concur_next (p : Port) (g : BitVec 16) (mask : BitVec 8) (s : State)
    (h : s.inReset = false) :
    ∃ t, exec (.concur p g mask) s = .next t
      ∧ if p ≠ .b then RefusedOn p .rights 0x41 s t
        else if s.permit.state ≠ .awaitingConcur ∨ g.toNat ≠ s.permit.generation then
          RefusedOn p .stale 0x41 s t
        else if mask ≠ s.permit.fittedMask then
          t.permit = s.permit.dropped .concurMismatch
          ∧ (t.ports.get .b).lastRefusal = some ⟨.range, 0x41⟩
          ∧ (t.ports.get .b).Latched .refused
          ∧ (∀ q, (t.ports.get q).Latched .permitLost)
          ∧ t.seats.seat = s.seats.seat ∧ t.route = s.route ∧ t.settings = s.settings
        else
          t.permit = { s.permit.consentLoaded s.settings.consentWindow with
            state := .granted, concurRemaining := none }
          ∧ Told [.permitGranted] [] s t ∧ SameBut [.framing, .records, .permit] s t := by
  refine allowedCommand_next h fun port u t hu ht => ?_
  obtain rfl := not_not.mp port
  have permit : u.permit = s.permit := hu.same .permit
  have settings : u.settings = s.settings := hu.same .settings
  simp only [State.concurOp, permit, settings] at ht
  split
  · next stale =>
    rw [if_pos stale] at ht
    exact RefusedOn.framed hu (refuse_refusedOn u .b .stale 0x41) ht
  next current =>
  rw [if_neg current] at ht
  split
  · next mismatch =>
    rw [if_pos mismatch] at ht
    exact concurMismatch_next hu ht fun lost => current (.inl (by simp [lost]))
  next agreed =>
  rw [if_neg agreed] at ht
  refine ⟨?_, Told.framed hu (latch_told _ _).onPermit ht,
    SameBut.framed hu (SameBut_seq (onPermit_outside u _) (latch_outside _ _)) ht⟩
  rw [ht.same .permit, State.latch_permit, State.onPermit_permit, permit]

/-- Renew Consent by R123. -/
theorem exec_renewConsent_next (p : Port) (g : BitVec 16) (s : State) (h : s.inReset = false) :
    ∃ t, exec (.renewConsent p g) s = .next t
      ∧ if p ≠ .b then RefusedOn p .rights 0x42 s t
        else if s.permit.state ≠ .granted ∨ g.toNat ≠ s.permit.generation then
          RefusedOn p .stale 0x42 s t
        else
          t.permit = s.permit.consentLoaded s.settings.consentWindow
          ∧ SameBut [.framing, .permit] s t := by
  refine judgedCommand_next h fun u t hu refused accepted => ?_
  have permit : u.permit = s.permit := hu.same .permit
  have settings : u.settings = s.settings := hu.same .settings
  simp only [State.renewJudged, permit, settings] at refused accepted
  split
  · next stale => exact refused _ (if_neg (by tauto))
  next current =>
  have ht := accepted _ (if_pos (by tauto))
  refine ⟨?_, SameBut.framed hu (onPermit_outside _ _) ht⟩
  rw [ht.same .permit, State.onPermit_permit, permit]

/-- Settles O37: the two commands, one by one. -/
theorem concurAndRenewConsent : Obligations.ConcurAndRenewConsent :=
  ⟨exec_concur_next, exec_renewConsent_next⟩

end Sys2Proof.Machine
end

section
/-! The commands of the cue table and of the engine state (chapter 08). -/

namespace Sys2Proof.Machine

/-! ## Action records (R134) -/

/-- Two bytes of a record are sent as they came. -/
theorem numBytes_wordOf (hi lo : Byte) : numBytes 2 (wordOf hi lo).toNat = [hi, lo] := by
  have value : (wordOf hi lo).toNat = hi.toNat * 256 + lo.toNat := by
    rw [wordOf, BitVec.toNat_append, ← Nat.shiftLeft_add_eq_or_of_lt lo.isLt, Nat.shiftLeft_eq]
  have high : BitVec.ofNat 8 ((hi.toNat * 256 + lo.toNat) / 256) = hi := by bv_omega
  have low : BitVec.ofNat 8 (hi.toNat * 256 + lo.toNat) = lo := by bv_omega
  simp [numBytes, value, high, low]

/-- The ten bytes of a record, one by one. -/
theorem toList_record (r : Vector Byte 10) :
    r.toList = [r[0], r[1], r[2], r[3], r[4], r[5], r[6], r[7], r[8], r[9]] := by
  refine List.ext_getElem (by simp) fun i hi _ => ?_
  rw [Vector.length_toList] at hi
  interval_cases i <;> simp

/-- Only a kind other than the seven gives no action (R133 test 7). -/
theorem actionOf_eq_none (r : Vector Byte 10) : actionOf r = none ↔ 6 < r[0].toNat := by
  unfold actionOf
  split
  case h_8 =>
    simp only [imp_false] at *
    exact iff_of_true trivial (by omega)
  all_goals simp [*]

/-- An action is stored by the bytes its kind uses, the others as zero (R134). -/
theorem bytes_actionOf {r : Vector Byte 10} {a : CueAction} (h : actionOf r = some a) :
    a.bytes = r.toList.take ([9, 3, 4, 4, 10, 4, 3].getD r[0].toNat 0)
      ++ List.replicate (10 - [9, 3, 4, 4, 10, 4, 3].getD r[0].toNat 0) 0 := by
  rw [toList_record]
  unfold actionOf at h
  split at h
  case h_8 => cases h
  all_goals
    next kind =>
    cases h
    have kindByte := congrArg (BitVec.ofNat 8) kind
    rw [BitVec.ofNat_toNat, BitVec.setWidth_eq] at kindByte
    simp [CueAction.bytes, patternWire, patternBytesOf, numBytes_wordOf, kindByte]

/-- The actions of a Load Cue are those of its records, when each has a known kind. -/
theorem actionsOf_eq (l : List (Vector Byte 10)) :
    actionsOf l = if l.any fun r => (actionOf r).isNone then none else some (l.filterMap actionOf) := by
  induction l with
  | nil => rfl
  | cons r l ih =>
    rw [actionsOf, ih]
    cases action : actionOf r with
    | none => simp [action]
    | some a => by_cases unknown : l.any fun r => (actionOf r).isNone <;> simp [action, unknown]

/-! ## The judgements of the cue table -/

/-- The cue that a Load Cue puts into its slot. -/
def storedCue (b : CueBytes) : Cue :=
  { trigger := b.trigger.toInt,
    direction := if b.direction = 0 then .fwd else if b.direction = 1 then .rev else .any,
    latest := if b.latestPresent = 0 then none else some b.latest.toInt,
    actions := b.actions.filterMap actionOf, fired := false }

/-- Tests 2 and 4 to 7 of R133: the count, the direction, the latest and the kinds of the actions. -/
abbrev CueUnfit (b : CueBytes) : Prop :=
  b.count = 0 ∨ 4 < b.count.toNat ∨ 2 < b.direction.toNat
    ∨ (b.latestPresent ≠ 0 ∧ (b.direction = 1 ∨ b.latest.toInt < b.trigger.toInt))
    ∨ (b.actions.any fun r => (actionOf r).isNone)

theorem cueDirectionOf_eq (b : CueBytes) :
    cueDirectionOf b.direction
      = if 2 < b.direction.toNat then none else some (storedCue b).direction := by
  have every : ∀ d : Byte, cueDirectionOf d = if 2 < d.toNat then none
      else some (if d = 0 then .fwd else if d = 1 then .rev else .any) := by decide
  exact every b.direction

theorem storedCue_direction_eq_rev (b : CueBytes) :
    (storedCue b).direction = .rev ↔ b.direction = 1 := by
  have every : ∀ d : Byte,
      (if d = 0 then CueDirection.fwd else if d = 1 then .rev else .any) = .rev ↔ d = 1 := by decide
  exact every b.direction

theorem cueCount_eq_zero (b : CueBytes) : b.count.toNat = 0 ↔ b.count = 0 :=
  (BitVec.toNat_eq (y := 0#8)).symm

/-- Tests 5 and 6 of R133: a latest wants a direction other than REV, and is not below the trigger. -/
theorem latest_unfit_iff (b : CueBytes) :
    ((latestOf b).isSome ∧ (storedCue b).direction = .rev)
        ∨ (latestOf b).any (· < b.trigger.toInt)
      ↔ b.latestPresent ≠ 0 ∧ (b.direction = 1 ∨ b.latest.toInt < b.trigger.toInt) := by
  rw [storedCue_direction_eq_rev, latestOf]
  split
  · next absent => exact iff_of_false (by simp) fun ⟨present, _⟩ => present absent
  · next present => rw [and_iff_right present]; simp

/-- A Load Cue that fails a test of R133 is refused RANGE: the one branch that answers a state is reached
past every test. -/
theorem loadCueJudged_range {b : CueBytes} (s : State) (h : CueUnfit b ∨ ¬ b.slot.toNat < 64) :
    s.loadCueJudged b = .error .range := by
  unfold State.loadCueJudged
  rw [cueDirectionOf_eq, actionsOf_eq, finOf]
  split
  · rfl
  next count =>
  split
  case h_2 => rfl
  next i dir slot direction =>
  split
  · rfl
  next reverse =>
  split
  · rfl
  next early =>
  split
  · rfl
  next actions kinds =>
  simp only [Option.ite_none_left_eq_some, Option.dite_none_right_eq_some, Option.some.injEq]
    at slot direction kinds
  obtain ⟨inTable, -⟩ := slot
  obtain ⟨listed, rfl⟩ := direction
  obtain ⟨known, -⟩ := kinds
  simp only [CueUnfit, ← latest_unfit_iff, ← cueCount_eq_zero] at h
  tauto

/-- A Load Cue that passes every test of R133 puts its cue, unfired, into its slot. -/
theorem loadCueJudged_fit {b : CueBytes} (s : State) (fit : ¬ CueUnfit b)
    (slot : b.slot.toNat < 64) :
    s.loadCueJudged b = .ok (s.setSlot ⟨b.slot.toNat, slot⟩ (some (storedCue b))) := by
  simp only [CueUnfit, ← latest_unfit_iff, ← cueCount_eq_zero, not_or] at fit
  obtain ⟨nonzero, few, direction, ⟨reverse, early⟩, kinds⟩ := fit
  unfold State.loadCueJudged
  rw [cueDirectionOf_eq, actionsOf_eq, finOf, if_neg (by tauto), dif_pos slot, if_neg direction,
    if_neg kinds]
  dsimp only
  rw [if_neg reverse, if_neg early]
  rfl

theorem deleteCueJudged_eq (slot : Byte) (s : State) :
    s.deleteCueJudged slot =
      if h : slot.toNat < 64 then .ok (s.setSlot ⟨slot.toNat, h⟩ none) else .error .range := by
  unfold State.deleteCueJudged finOf
  by_cases h : slot.toNat < 64 <;> simp [h]

/-! ## What the commands leave -/

/-- The engine after a command that changes the engine alone. -/
theorem cues_framed {f : CueEngine → CueEngine} {s u t : State}
    (hu : SameBut [.framing] s u) (ht : SameBut [.framing] (u.onCues f) t) :
    t.cues = f s.cues := by
  have before : u.cues = s.cues := hu.same .cues
  have after : t.cues = f u.cues := ht.same .cues
  rw [after, before]

/-- Setting one slot changes that slot, and nothing else of the engine. -/
theorem setSlot_framed {i : Fin 64} {x : Option Cue} {s u t : State}
    (hu : SameBut [.framing] s u) (ht : SameBut [.framing] (u.setSlot i x) t) :
    (∀ j, t.slot j = if i = j then x else s.slot j)
      ∧ t.cues = { s.cues with slots := t.cues.slots } ∧ SameBut [.framing, .cues] s t := by
  have cues : t.cues = { s.cues with slots := s.cues.slots.set i x } := cues_framed hu ht
  refine ⟨fun j => ?_, by rw [cues], SameBut.framed hu (setSlot_outside u i x) ht⟩
  rw [State.slot, cues]
  exact Vector_get_set _ _ _ _

/-! ## The four commands -/

/-- Load Cue by R133. -/
theorem exec_loadCue_next (p : Port) (b : CueBytes) (s : State) (h : s.inReset = false) :
    ∃ t, exec (.loadCue p b) s = .next t
      ∧ if p ≠ .c then RefusedOn p .rights 0x50 s t
        else if CueUnfit b then RefusedOn p .range 0x50 s t
        else if h : b.slot.toNat < 64 then
          t.slot ⟨b.slot.toNat, h⟩ = some (storedCue b)
          ∧ (∀ j : Fin 64, j.val ≠ b.slot.toNat → t.slot j = s.slot j)
          ∧ t.cues = { s.cues with slots := t.cues.slots } ∧ SameBut [.framing, .cues] s t
        else RefusedOn p .range 0x50 s t := by
  refine judgedCommand_next h fun u t hu refused accepted => ?_
  split
  · next unfit => exact refused _ (loadCueJudged_range u (.inl unfit))
  next fit =>
  split
  · next slot =>
    obtain ⟨slots, engine, frame⟩ := setSlot_framed hu (accepted _ (loadCueJudged_fit u fit slot))
    refine ⟨?_, fun j hj => ?_, engine, frame⟩
    · rw [slots, if_pos rfl]
    · rw [slots, if_neg fun same => hj (congrArg Fin.val same).symm]
  · next slot => exact refused _ (loadCueJudged_range u (.inr slot))

/-- Delete Cue by R135. -/
theorem exec_deleteCue_next (p : Port) (slot : Byte) (s : State) (h : s.inReset = false) :
    ∃ t, exec (.deleteCue p slot) s = .next t
      ∧ if p ≠ .c then RefusedOn p .rights 0x51 s t
        else if 63 < slot.toNat then RefusedOn p .range 0x51 s t
        else
          (∀ j : Fin 64, t.slot j = if j.val = slot.toNat then none else s.slot j)
          ∧ t.cues = { s.cues with slots := t.cues.slots } ∧ SameBut [.framing, .cues] s t := by
  refine judgedCommand_next h fun u t hu refused accepted => ?_
  rw [deleteCueJudged_eq] at refused accepted
  split
  · next above => exact refused _ (dif_neg (by omega))
  next within =>
  have inTable : slot.toNat < 64 := by omega
  obtain ⟨slots, engine, frame⟩ := setSlot_framed hu (accepted _ (dif_pos inTable))
  refine ⟨fun j => ?_, engine, frame⟩
  simp only [slots, Fin.ext_iff, eq_comm]

/-- A command of port C that sets the engine state (R137). -/
theorem setEngine_next {p : Port} {code : Byte} (e : EngineState) {s : State}
    (h : s.inReset = false) :
    ∃ t, commandTaken p (·.allowed [.c] p code (·.setEngine e)) s = .next t
      ∧ if p ≠ .c then RefusedOn p .rights code s t
        else t.cues = { s.cues with engine := e } ∧ SameBut [.framing, .cues] s t :=
  allowedCommand_next h fun _ u _ hu ht =>
    ⟨cues_framed hu ht, SameBut.framed hu (onCues_outside u _) ht⟩

/-- Settles O39: the action records, then the four commands, one by one. -/
theorem cueTableCommands : Obligations.CueTableCommands := by
  refine ⟨fun r => ?_, exec_loadCue_next, fun p slot s h =>
    ⟨exec_deleteCue_next p slot s h, setEngine_next .armed h, setEngine_next .disarmed h⟩⟩
  split
  · next unknown => exact (actionOf_eq_none r).mp unknown
  · next a known =>
    have kind : ¬ 6 < r[0].toNat := by simp [← actionOf_eq_none, known]
    exact ⟨not_lt.mp kind, bytes_actionOf known⟩

end Sys2Proof.Machine
end

section
/-! The framing of the ports through a command that is no read, and Read Status (chapter 11). -/

namespace Sys2Proof.Machine

/-! ## What keeps the framing -/

/-- The framing of every port is the same in two states. The blocks move events and refusals, never
the bytes of a port (R192). -/
def FramingKept (s t : State) : Prop := Block.framing.same s t

namespace FramingKept

theorem refl (s : State) : FramingKept s s := Block.same_refl .framing s

theorem trans {s t u : State} (h : FramingKept s t) (k : FramingKept t u) : FramingKept s u :=
  Block.same_trans h k

theorem ite {s t u : State} {c : Prop} [Decidable c] (h : FramingKept s t) (k : FramingKept s u) :
    FramingKept s (if c then t else u) := by
  split <;> assumption

theorem foldl {α : Type} {f : State → α → State} (h : ∀ s x, FramingKept s (f s x)) (l : List α)
    (s : State) : FramingKept s (l.foldl f s) := by
  induction l generalizing s with
  | nil => exact refl s
  | cons x l ih => exact (h s x).trans (ih _)

/-- What does not name the framing keeps it. The test is a computation, to be given as `rfl`. -/
theorem outside {a : List Block} {s t : State} (h : SameBut a s t)
    (k : a.contains .framing = false) : FramingKept s t :=
  h.same .framing (by simpa using k)

theorem onPort {s : State} {p : Port} {f : PortState → PortState}
    (h : ∀ x, (f x).framing = x.framing) : FramingKept s (s.onPort p f) := by
  intro q
  rw [State.onPort_ports, PerPort_get_modify]
  split
  · exact h _
  · rfl

end FramingKept

/-- A judgement that keeps the framing where it accepts. -/
def AnswerKept (s : State) (answer : Except Reason State) : Prop :=
  ∀ t, answer = .ok t → FramingKept s t

namespace AnswerKept

theorem refused (s : State) (r : Reason) : AnswerKept s (.error r) :=
  fun _ answer => nomatch answer

theorem taken {s t : State} (h : FramingKept s t) : AnswerKept s (.ok t) := by
  rintro _ ⟨⟩
  exact h

/-- A test that refuses leaves what follows it to be judged. -/
theorem test {s : State} {r : Reason} {answer : Except Reason State} {c : Prop} [Decidable c]
    (h : AnswerKept s answer) : AnswerKept s (if c then .error r else answer) := by
  split
  · exact refused s r
  · exact h

theorem ite {s : State} {x y : Except Reason State} {c : Prop} [Decidable c] (h : AnswerKept s x)
    (k : AnswerKept s y) : AnswerKept s (if c then x else y) := by
  split <;> assumption

end AnswerKept

theorem refuse_kept (s : State) (p : Port) (r : Reason) (code : Byte) :
    FramingKept s (s.refuse p r code) :=
  .outside (refuse_outside s p r code) rfl

section
variable {ports : List Port} {p : Port} {code : Byte} {s : State}

theorem judged_kept {j : State → Except Reason State} (h : ∀ u, AnswerKept u (j u)) :
    FramingKept s (s.judged p code j) := by
  cases answer : j s with
  | ok t => rw [judged_ok answer]; exact h s t answer
  | error r => rw [judged_error answer]; exact refuse_kept s p r code

theorem allowed_kept {f : State → State} (h : ∀ u, FramingKept u (f u)) :
    FramingKept s (s.allowed ports p code f) :=
  .ite (h s) (refuse_kept s p _ code)

theorem allowedJudged_kept {j : State → Except Reason State} (h : ∀ u, AnswerKept u (j u)) :
    FramingKept s (s.allowed ports p code (·.judged p code j)) :=
  allowed_kept fun _ => judged_kept h

end

/-! ## Route Counter and drive enable -/

theorem loadMarkerJudged_kept (id : Byte) (x : BitVec 32) (tol : BitVec 16) (kind : Byte)
    (s : State) : AnswerKept s (s.loadMarkerJudged id x tol kind) := by
  rw [loadMarkerJudged_eq]
  exact .test (.test (.taken (.outside (onRoute_outside s _) rfl)))

theorem zeroRouteJudged_kept (s : State) : AnswerKept s s.zeroRouteJudged :=
  .test (.taken ((FramingKept.outside (onRoute_outside s _) rfl).trans
    (.outside (rearm_outside _) rfl)))

theorem reportConditions_kept (s : State) : FramingKept s s.reportConditions :=
  .foldl (fun t i => .ite (.outside (report_outside t (encoderCause i)) rfl) (.refl t)) allAxes s

theorem rederiveReporting_kept (s : State) : FramingKept s s.rederiveReporting :=
  have derived := FramingKept.outside (rederive_outside s) rfl
  .ite (derived.trans (reportConditions_kept _)) derived

/-! ## Motion Generator -/

theorem appendJudged_kept (b : LegBytes) (seek : Option (Byte × Byte)) (s : State) :
    AnswerKept s (s.appendJudged b seek) := by
  unfold State.appendJudged
  split
  · exact .test (.test (.test (.test (.test (.taken (.outside (onMotion_outside s _) rfl))))))
  · exact .refused s _

/-- A change of the Motion Generator, then the entry of a phase. -/
theorem enterPhase_onMotion_kept (s : State) (f : MotionGenerator → MotionGenerator) (ph : Phase) :
    FramingKept s ((s.onMotion f).enterPhase ph) :=
  (FramingKept.outside (onMotion_outside s f) rfl).trans (.outside (enterPhase_outside _ ph) rfl)

theorem clearFractions_kept (s : State) : FramingKept s s.clearFractions :=
  .outside (onDrive_outside s _) rfl

theorem startFromRest_kept (s : State) : FramingKept s s.startFromRest := by
  unfold State.startFromRest
  split
  · exact .refl s
  · exact (clearFractions_kept s).trans (enterPhase_onMotion_kept _ _ _)

theorem heldWithoutLeg_kept (s : State) : FramingKept s s.heldWithoutLeg :=
  enterPhase_onMotion_kept s _ _

theorem enterPost_kept (s : State) : FramingKept s s.enterPost := .outside (enterPost_outside s) rfl

theorem queueEmpty_enterPost_kept (s : State) : FramingKept s (s.latch .queueEmpty).enterPost :=
  (FramingKept.outside (latch_outside s _) rfl).trans (enterPost_kept _)

theorem afterPeriod_kept (s : State) : FramingKept s s.afterPeriod :=
  .ite (heldWithoutLeg_kept s) (.ite (queueEmpty_enterPost_kept s)
    (.ite (enterPost_kept s) (startFromRest_kept s)))

theorem preEnd_kept (s : State) : FramingKept s s.preEnd := .ite (afterPeriod_kept s) (.refl s)

theorem enterPre_kept (s : State) : FramingKept s s.enterPre :=
  have prepared := (FramingKept.outside (onMotion_outside s _) rfl).trans
    (.outside (onDrive_outside _ _) rfl)
  .ite (reportConditions_kept s)
    (((prepared.trans (.outside (enterPhase_outside _ _) rfl)).trans
      (rederiveReporting_kept _)).trans (preEnd_kept _))

theorem goJudged_kept (s : State) : AnswerKept s s.goJudged :=
  .test (.test (.test (.test (.ite (.taken (enterPre_kept s))
    (.ite (.taken (heldWithoutLeg_kept s)) (.taken (startFromRest_kept s)))))))

/-! ## Holds, stops and the section resets -/

theorem holdStart_kept (s : State) : FramingKept s s.holdStart := by
  unfold State.holdStart
  match s.motion.phase with
  | .accel | .cruise | .decel => exact enterPhase_onMotion_kept s _ _
  | .pre | .dwell => exact heldWithoutLeg_kept s
  | .idle | .post | .holding | .held | .stopping | .faulted => exact .refl s

theorem addHold_kept (f : HoldSet → HoldSet) (s : State) : FramingKept s (s.addHold f) :=
  have joined := FramingKept.outside (onMotion_outside s fun m => { m with holds := f m.holds }) rfl
  .ite (joined.trans (holdStart_kept _)) joined

theorem holdEnd_kept (s : State) : FramingKept s s.holdEnd := by
  unfold State.holdEnd
  match s.motion.phase with
  | .held =>
    refine .ite (enterPost_kept s) ?_
    match s.motion.current with
    | some c => exact (clearFractions_kept s).trans (enterPhase_onMotion_kept _ _ _)
    | none => exact .ite (queueEmpty_enterPost_kept s) (startFromRest_kept s)
  | .holding =>
    match s.motion.current with
    | some c => exact .ite (.outside (enterPhase_outside s _) rfl) (enterPhase_onMotion_kept s _ _)
    | none => exact .refl s
  | .idle | .pre | .accel | .cruise | .decel | .dwell | .post | .stopping | .faulted =>
    exact .refl s

theorem dropHold_kept (f : HoldSet → HoldSet) (s : State) : FramingKept s (s.dropHold f) :=
  have left := FramingKept.outside (onMotion_outside s fun m => { m with holds := f m.holds }) rfl
  .ite (left.trans (holdEnd_kept _)) left

theorem dropScene_kept (s : State) : FramingKept s s.dropScene :=
  (FramingKept.outside (onMotion_outside s _) rfl).trans (dropHold_kept _ _)

theorem sceneHoldJudged_kept (duration : Nat) (s : State) :
    AnswerKept s (s.sceneHoldJudged duration) :=
  .test (.taken ((FramingKept.outside (onMotion_outside s _) rfl).trans (addHold_kept _ _)))

theorem takeHold_kept (p : Port) (s : State) : FramingKept s (takeHold p s) := by
  cases p with
  | a | c => exact addHold_kept _ s
  | b => exact refuse_kept s _ _ _

theorem releaseHoldOp_kept (p : Port) (reason : Byte) (s : State) :
    FramingKept s (s.releaseHoldOp p reason) := by
  unfold State.releaseHoldOp
  dsimp only
  split
  case h_2 | h_5 => exact dropHold_kept _ s
  case h_7 => exact dropScene_kept s
  all_goals exact refuse_kept s _ _ _

theorem softStop_kept (cause : StopCause) (s : State) : FramingKept s (s.softStop cause) :=
  .outside (softStop_outside s cause) rfl

theorem takeSoftStop_kept (p : Port) (s : State) : FramingKept s (takeSoftStop p s) := by
  cases p with
  | a | b => exact softStop_kept _ s
  | c => exact refuse_kept s _ _ _

theorem hardStop_kept (cause : StopCause) (s : State) : FramingKept s (s.hardStop cause) :=
  .outside (hardStop_outside s cause) rfl

theorem takeHardStop_kept (p : Port) (s : State) : FramingKept s (takeHardStop p s) := by
  cases p with
  | a | b => exact .ite (.refl s) (hardStop_kept _ s)
  | c => exact refuse_kept s _ _ _

theorem clearFaultJudged_kept (s : State) : AnswerKept s s.clearFaultJudged :=
  .test (.taken (((enterPhase_onMotion_kept s _ _).trans (.outside (onRoute_outside _ _) rfl)).trans
    (.outside (rederive_outside _) rfl)))

theorem motionReset_kept (s : State) : FramingKept s s.motionReset :=
  .ite ((FramingKept.outside (stopAll_outside s) rfl).trans (.outside (rederive_outside _) rfl))
    (hardStop_kept _ s)

theorem cueReset_kept (s : State) : FramingKept s s.cueReset :=
  (FramingKept.outside (onCues_outside s _) rfl).trans (.outside (onCues_outside _ _) rfl)

theorem effectReset_kept (s : State) : FramingKept s s.effectReset :=
  (FramingKept.foldl (fun t c => .outside (setChannel_outside t c _) rfl) allChannels s).trans
    (.outside (onEffects_outside _ _) rfl)

theorem soundReset_kept (s : State) : FramingKept s s.soundReset :=
  (FramingKept.foldl (fun t v => (FramingKept.outside (setVoice_outside t v _) rfl).trans
    (.outside (abandonRefill_outside _ v) rfl)) allVoices s).trans
    (.outside (onSound_outside _ _) rfl)

theorem showReset_kept (s : State) : FramingKept s s.showReset :=
  ((cueReset_kept s).trans (effectReset_kept _)).trans (soundReset_kept _)

/-! ## Turntable Axis -/

theorem beginTurn_kept (target : Nat) (mode : TurnMode) (s : State) :
    FramingKept s (s.beginTurn target mode) :=
  .ite (.outside (turnEnds_outside s _ _ _) rfl) (.outside (onTurntable_outside s _) rfl)

theorem ttPreEnd_kept (s : State) : FramingKept s s.ttPreEnd := by
  refine .ite ?_ (.refl s)
  split
  · split
    · exact (beginTurn_kept _ _ s).trans (.outside (rederive_outside _) rfl)
    · exact .outside (onTurntable_outside s _) rfl
  · exact .refl s

theorem enterTurnPre_kept (r : Run) (s : State) : FramingKept s (s.enterTurnPre r) :=
  ((FramingKept.outside (onTurntable_outside s _) rfl).trans (rederiveReporting_kept _)).trans
    (ttPreEnd_kept _)

theorem turnJudged_kept (target : BitVec 16) (mode : Byte) (s : State) :
    AnswerKept s (s.turnJudged target mode) := by
  unfold State.turnJudged
  split
  · exact .refused s _
  · exact .test (.test (.test (.test (.test (.ite (.taken (beginTurn_kept _ _ s))
      (.taken (enterTurnPre_kept _ s)))))))

theorem homeJudged_kept (s : State) : AnswerKept s s.homeJudged :=
  have away := FramingKept.outside (onTurntable_outside s fun t => { t with homed := false }) rfl
  .test (.test (.test (.ite (.taken (away.trans (.outside (onTurntable_outside _ _) rfl)))
    (.taken (away.trans (enterTurnPre_kept _ _))))))

/-! ## Seat Monitor and Permit Unit -/

theorem seatUpdate_kept (i : Fin 8) (x : Seat) (s : State) : FramingKept s (s.seatUpdate i x) :=
  .outside (seatUpdate_outside s i x) rfl

theorem permitLoss_kept (cause : LossCause) (s : State) : FramingKept s (s.permitLoss cause) :=
  .outside (permitLoss_outside s cause) rfl

theorem dropRequest_kept {s t : State} (h : s.dropRequest = some t) : FramingKept s t := by
  obtain ⟨-, ⟨⟩⟩ := Option.ite_none_right_eq_some.mp h
  exact (FramingKept.outside (onMotion_outside s _) rfl).trans (.outside (rederive_outside _) rfl)

theorem releaseJudged_kept (mask : BitVec 8) (s : State) : AnswerKept s (s.releaseJudged mask) := by
  unfold State.releaseJudged
  split
  · exact .refused s _
  · next t off =>
    exact .taken (((dropRequest_kept off).trans (permitLoss_kept _ _)).trans
      (.foldl (fun u i => .ite (seatUpdate_kept i _ u) (.refl u)) allSeats _))

theorem clearSeats_kept (mask : BitVec 8) (s : State) : FramingKept s (s.clearSeats mask) :=
  .foldl (fun t i => .ite (seatUpdate_kept i _ t) (.refl t)) allSeats s

theorem refit_kept (count : Nat) (s : State) : FramingKept s (s.refit count) :=
  (FramingKept.outside (onSettings_outside s _) rfl).trans (.foldl (fun t i =>
    .ite (.ite (.refl t) (seatUpdate_kept i _ t)) (.ite (seatUpdate_kept i _ t) (.refl t)))
    allSeats _)

theorem handResult_kept (v : Vector (Option CheckResult) 8) (g : Nat) (s : State) (i : Fin 8) :
    FramingKept s (s.handResult v g i) := by
  unfold State.handResult
  split
  · exact .refl s
  · exact seatUpdate_kept i _ s

theorem check_kept (s : State) : FramingKept s s.check :=
  ((((permitLoss_kept _ s).trans (.outside (onPermit_outside _ _) rfl)).trans
    (.foldl (handResult_kept _ _) allSeats _)).trans (.outside (latch_outside _ _) rfl)).trans
    (.outside (onPermit_outside _ _) rfl)

theorem concurOp_kept (p : Port) (g : BitVec 16) (mask : BitVec 8) (s : State) :
    FramingKept s (s.concurOp p g mask) :=
  .ite (refuse_kept s p _ _) (.ite ((refuse_kept s p _ _).trans (permitLoss_kept _ _))
    ((FramingKept.outside (onPermit_outside s _) rfl).trans (.outside (latch_outside _ _) rfl)))

theorem renewJudged_kept (g : BitVec 16) (s : State) : AnswerKept s (s.renewJudged g) :=
  .ite (.taken (.outside (onPermit_outside s _) rfl)) (.refused s _)

/-! ## Effect Timer Bank -/

theorem startJudged_kept (channel : Byte) (b : PatternBytes) (s : State) :
    AnswerKept s (s.startJudged channel b) := by
  unfold State.startJudged
  split
  · exact .ite (.taken (.outside (effectOff_outside s _) rfl))
      (.test (.taken (.outside (startPattern_outside s _ _) rfl)))
  · exact .refused s _

theorem armJudged_kept (channel : Byte) (b : PatternBytes) (s : State) :
    AnswerKept s (s.armJudged channel b) := by
  unfold State.armJudged
  split
  · exact .taken (.outside (setChannel_outside s _ _) rfl)
  · exact .refused s _

theorem offJudged_kept (channel : Byte) (s : State) : AnswerKept s (s.offJudged channel) := by
  unfold State.offJudged
  split
  · exact .taken (.outside (effectOff_outside s _) rfl)
  · exact .refused s _

theorem effectAction_kept (channel operation : Byte) (b : PatternBytes) (s : State) :
    AnswerKept s (s.effectAction channel operation b) :=
  .ite (startJudged_kept channel b s) (.ite (armJudged_kept channel b s) (.refused s _))

theorem clearLockoutJudged_kept (pair : Byte) (s : State) :
    AnswerKept s (s.clearLockoutJudged pair) := by
  unfold State.clearLockoutJudged
  split
  · exact .refused s _
  · exact .ite (.taken (((FramingKept.outside (setChannel_outside s _ _) rfl).trans
      (.outside (setChannel_outside _ _ _) rfl)).trans (.outside (onEffects_outside _ _) rfl)))
      (.taken (.refl s))

theorem storePairMask_kept (v : Nat) (s : State) : FramingKept s (s.storePairMask v) :=
  (FramingKept.outside (onSettings_outside s _) rfl).trans (.foldl (fun t _ =>
    .ite (.ite (.outside (effectOff_outside t _) rfl) (.refl t))
      (.ite (.outside (onEffects_outside t _) rfl) (.refl t))) allPairs _)

/-! ## Sound Unit -/

theorem playJudged_kept (a : PlayBytes) (s : State) : AnswerKept s (s.playJudged a) := by
  unfold State.playJudged
  split
  · exact .test (.test (.test (.test (.taken (.outside (startVoice_outside s _ _) rfl)))))
  · exact .refused s _

theorem stopJudged_kept (voice step : Byte) (s : State) :
    AnswerKept s (s.stopJudged voice step) := by
  have ended (v : Fin 6) := FramingKept.outside (endVoice_outside s v .stop) rfl
  have becomes (v : Fin 6) (x : Voice) := FramingKept.outside (setVoice_outside s v x) rfl
  unfold State.stopJudged
  split
  · exact .refused s _
  next v _ =>
  dsimp only
  match (s.voice v).state with
  | .idle => exact .taken (.refl s)
  | .paused => exact .taken (ended v)
  | .playing | .fadingOut => exact .taken (.ite (ended v) (becomes v _))

theorem gainJudged_kept (voice target step : Byte) (s : State) :
    AnswerKept s (s.gainJudged voice target step) := by
  unfold State.gainJudged
  split
  · exact .refused s _
  next v _ =>
  dsimp only
  match (s.voice v).state with
  | .idle | .fadingOut => exact .refused s _
  | .playing | .paused => exact .taken (.outside (setVoice_outside s v _) rfl)

theorem zoneJudged_kept (zone target step : Byte) (s : State) :
    AnswerKept s (s.zoneJudged zone target step) := by
  unfold State.zoneJudged
  split
  · exact .refused s _
  · exact .taken (.outside (onSound_outside s _) rfl)

theorem mountJudged_kept (s : State) : AnswerKept s s.mountJudged :=
  .test (.taken (.outside (onSound_outside s _) rfl))

/-! ## Cue Engine -/

theorem actionJudged_kept (a : CueAction) (s : State) : AnswerKept s (s.actionJudged a) := by
  cases a with
  | play a => exact playJudged_kept a s
  | stop voice step => exact stopJudged_kept voice step s
  | gain voice target step => exact gainJudged_kept voice target step s
  | zone z target step => exact zoneJudged_kept z target step s
  | effect channel operation pattern => exact effectAction_kept channel operation pattern s
  | turn target mode => exact turnJudged_kept target mode s
  | sceneHold duration => exact sceneHoldJudged_kept _ s

theorem dispatch_kept (i : Fin 64) (index : Nat) (a : CueAction) (s : State) :
    FramingKept s (s.dispatch i index a) := by
  unfold State.dispatch
  split
  · next t answer => exact actionJudged_kept a s t answer
  · exact (FramingKept.outside (logCue_outside s _ _ _) rfl).trans
      (.outside (latch_outside _ _) rfl)

theorem fire_kept (i : Fin 64) (s : State) : FramingKept s (s.fire i) := by
  unfold State.fire
  split
  · exact .refl s
  · dsimp only
    rw [dispatchAll_eq_foldl]
    exact (((FramingKept.outside (setSlot_outside s i _) rfl).trans
      (.outside (logCue_outside _ _ _ _) rfl)).trans (.outside (latch_outside _ _) rfl)).trans
      (.foldl (fun t (x : CueAction × Nat) => dispatch_kept i x.2 x.1 t) _ _)

theorem fireCueJudged_kept (slot : Byte) (s : State) : AnswerKept s (s.fireCueJudged slot) := by
  unfold State.fireCueJudged
  split
  · exact .refused s _
  · split
    · exact .refused s _
    · exact .test (.taken (fire_kept _ s))

theorem loadCueJudged_kept (b : CueBytes) (s : State) : AnswerKept s (s.loadCueJudged b) := by
  by_cases fit : CueUnfit b ∨ ¬ b.slot.toNat < 64
  · rw [loadCueJudged_range s fit]
    exact .refused s _
  · obtain ⟨fit, slot⟩ := not_or.mp fit
    rw [loadCueJudged_fit s fit (not_not.mp slot)]
    exact .taken (.outside (setSlot_outside s _ _) rfl)

theorem deleteCueJudged_kept (slot : Byte) (s : State) : AnswerKept s (s.deleteCueJudged slot) := by
  rw [deleteCueJudged_eq]
  split
  · exact .taken (.outside (setSlot_outside s _ _) rfl)
  · exact .refused s _

/-! ## Write Setting -/

/-- A taken write moves no framing: an event mask and a watch set are a port's, but not part of
it. -/
theorem store_kept (v : Nat) (st : Setting) (s : State) : FramingKept s (st.store v s) := by
  cases st with
  | eventMask p | watchSet p => exact .onPort fun _ => rfl
  | encoderErrorLimit =>
    exact (FramingKept.outside (onSettings_outside s _) rfl).trans
      (.outside (testEncoders_outside _ _) rfl)
  | countsPerRevolution =>
    exact (FramingKept.outside (onSettings_outside s _) rfl).trans
      (.outside (onTurntable_outside _ _) rfl)
  | fittedSeatCount => exact refit_kept v s
  | exclusivePairMask => exact storePairMask_kept v s
  | _ => exact .outside (onSettings_outside s _) rfl

theorem writeJudged_kept (p : Port) (number v : Nat) (s : State) :
    AnswerKept s (s.writeJudged p number v) := by
  unfold State.writeJudged
  split
  · exact .refused s _
  · exact .test (.test (.test (.taken (store_kept _ _ s))))

theorem takeWriteSetting_kept (p : Port) (number : Nat) (v : BitVec 32) (s : State) :
    FramingKept s (takeWriteSetting p number v s) :=
  judged_kept (writeJudged_kept p number _)

/-! ## Any command that is no read -/

/-- The effect of a command that is no read moves the framing of no port: only a response does. -/
theorem takeCommand_kept {c : Instr} (h : c.isRead = false) (s : State) :
    FramingKept s (takeCommand c s) := by
  cases c with
  | readStatus | readSetting | readRoute | readMarker | readMarkerList | readMotion | readLegs
  | readDrive | readTurntable | readSeats | readPermit | readCueEngine | readCue | readCueLog
  | readEffects | readSound | readClipTable => cases h
  | writeSetting p | writeEventMask p | writePhaseWatchSet p | writeEncoderErrorLimit p
  | writeRampTable p | writeTurntableCountsPerRevolution p | writeTurntableStep p
  | writeFittedSeatCount p | writeExclusivePairMask p => exact takeWriteSetting_kept p _ _ s
  | resetSectionMotion p => exact allowed_kept motionReset_kept
  | resetSectionShow p => exact allowed_kept showReset_kept
  | loadMarker p id x tol kind => exact allowedJudged_kept (loadMarkerJudged_kept id x tol kind)
  | deleteMarker p id | clearMarkers p =>
    exact allowedJudged_kept fun u => .test (.taken (.outside (onRoute_outside u _) rfl))
  | zeroRoute p => exact allowedJudged_kept zeroRouteJudged_kept
  | appendLeg p leg => exact allowedJudged_kept (appendJudged_kept leg none)
  | appendSeekLeg p leg marker action => exact allowedJudged_kept (appendJudged_kept leg _)
  | flushLegs p => exact allowed_kept fun u => .outside (onMotion_outside u _) rfl
  | go p => exact allowedJudged_kept goJudged_kept
  | hold p => exact takeHold_kept p s
  | releaseHold p reason => exact releaseHoldOp_kept p reason s
  | softStop p => exact takeSoftStop_kept p s
  | hardStop p => exact takeHardStop_kept p s
  | clearMotionFault p => exact allowedJudged_kept clearFaultJudged_kept
  | turnTo p target mode => exact allowedJudged_kept (turnJudged_kept target mode)
  | homeTurntable p => exact allowedJudged_kept homeJudged_kept
  | releaseBars p mask => exact allowedJudged_kept (releaseJudged_kept mask)
  | clearSeatFault p mask => exact allowed_kept (clearSeats_kept mask)
  | beginCheck p => exact allowedJudged_kept fun u => .test (.taken (check_kept u))
  | concur p g mask => exact allowed_kept (concurOp_kept p g mask)
  | renewConsent p g => exact allowedJudged_kept (renewJudged_kept g)
  | revokeConsent p => exact allowed_kept (permitLoss_kept _)
  | loadCue p cue => exact allowedJudged_kept (loadCueJudged_kept cue)
  | deleteCue p slot => exact allowedJudged_kept (deleteCueJudged_kept slot)
  | armCues p | disarmCues p => exact allowed_kept fun u => .outside (onCues_outside u _) rfl
  | fireCue p slot => exact allowedJudged_kept (fireCueJudged_kept slot)
  | setEffectStart p channel pattern => exact allowedJudged_kept (startJudged_kept channel pattern)
  | setEffectArm p channel pattern => exact allowedJudged_kept (armJudged_kept channel pattern)
  | setEffectOff p channel pattern => exact allowedJudged_kept (offJudged_kept channel)
  | clearEffectLockout p pair => exact allowedJudged_kept (clearLockoutJudged_kept pair)
  | mountClips p => exact allowedJudged_kept mountJudged_kept
  | play p args => exact allowedJudged_kept (playJudged_kept args)
  | stopVoice p voice step => exact allowedJudged_kept (stopJudged_kept voice step)
  | setVoiceGain p voice target step => exact allowedJudged_kept (gainJudged_kept voice target step)
  | setZoneLevel p zone target step => exact allowedJudged_kept (zoneJudged_kept zone target step)
  | _ => exact .refl s

/-- A row with a sender is its command taken on that port. -/
theorem exec_eq_commandTaken {c : Instr} {p : Port} (h : c.sender = some p) (s : State) :
    exec c s = commandTaken p (takeCommand c) s := by
  cases c <;> cases h <;> rfl

/-! ## The slot of a command -/

/-- What the beginning of a slot makes of the framing depends on the framing alone. -/
theorem framing_slotBegun_congr {x y : PortState} (h : x.framing = y.framing) :
    x.slotBegun.framing = y.slotBegun.framing := by
  simp only [PortState.framing, Prod.mk.injEq] at h
  obtain ⟨framer, progress, response, sdo, wait⟩ := h
  simp only [PortState.slotBegun, PortState.framing, framer, response]
  split
  · simp [framer, progress, response, sdo, wait]
  · simp [progress, wait]
  · split <;> simp [progress, wait]

theorem slotBegun_of_deselected {x : PortState} (h : x.framer = .deselected) : x.slotBegun = x := by
  simp [PortState.slotBegun, h]

section
variable {x : PortState} {r : Response} (h : x.framer ≠ .deselected)
include h

theorem slotBegun_of_empty (empty : x.response = none) : x.slotBegun = { x with sdo := 0 } := by
  simp [PortState.slotBegun, empty]

theorem slotBegun_of_byte {b : Byte} (going : x.response = some r)
    (next : r.bytes[r.index]? = some b) :
    x.slotBegun = { x with sdo := b, response := some { r with index := r.index + 1 } } := by
  simp [PortState.slotBegun, going, next]

theorem slotBegun_of_sent (going : x.response = some r) (sent : r.bytes[r.index]? = none) :
    x.slotBegun = { x with sdo := 0, response := none } := by
  simp [PortState.slotBegun, going, sent]

end

@[simp] theorem framer_slotBegun (x : PortState) : x.slotBegun.framer = x.framer := by
  unfold PortState.slotBegun
  split <;> [rfl; rfl; (split <;> rfl)]

@[simp] theorem inProgress_slotBegun (x : PortState) : x.slotBegun.inProgress = x.inProgress := by
  unfold PortState.slotBegun
  split <;> [rfl; rfl; (split <;> rfl)]

@[simp] theorem waitRise_slotBegun (x : PortState) : x.slotBegun.waitRise = x.waitRise := by
  unfold PortState.slotBegun
  split <;> [rfl; rfl; (split <;> rfl)]

@[simp] theorem response_commandFramed (x : PortState) : x.commandFramed.response = x.response := by
  unfold PortState.commandFramed
  split <;> rfl

@[simp] theorem waitRise_commandFramed (x : PortState) : x.commandFramed.waitRise = x.waitRise := by
  unfold PortState.commandFramed
  split <;> rfl

/-- A command takes a port neither into a frame nor out of one. -/
@[simp] theorem commandFramed_deselected_iff (x : PortState) :
    x.commandFramed.framer = .deselected ↔ x.framer = .deselected := by
  unfold PortState.commandFramed
  split <;> simp [*]

theorem commandFramed_of_decoding {x : PortState}
    (h : x.framer = .awaitCode ∨ x.framer = .arguments) :
    x.commandFramed = { x with framer := .awaitCode, inProgress := none } := by
  obtain h | h := h <;> simp [PortState.commandFramed, h]

/-- A command whose effect keeps the framing leaves that of its own port as its framer and the next
slot make it, and that of the others alone. -/
theorem commandTaken_framing {p : Port} {f : State → State} {s : State} (h : s.inReset = false)
    (kept : ∀ u, FramingKept u (f u)) :
    ∃ t, commandTaken p f s = .next t ∧ OthersFraming p s t
      ∧ (t.ports.get p).framing = (s.ports.get p).commandFramed.slotBegun.framing := by
  have effect := kept (s.onPort p (·.commandFramed))
  refine ⟨_, commandTaken_next h, fun q other => ?_, ?_⟩
  · have same := effect q
    simp only [State.onPort_ports, PerPort_get_modify, if_neg other] at same ⊢
    exact same
  · have own := effect p
    simp only [State.onPort_ports, PerPort_get_modify, if_true] at own ⊢
    exact framing_slotBegun_congr own

/-- A command that is no read, by R192 and R194. -/
theorem exec_framing_next (c : Instr) (p : Port) (s : State) (h : s.inReset = false)
    (sender : c.sender = some p) (noRead : c.isRead = false) :
    ∃ t, exec c s = .next t ∧ OthersFraming p s t
      ∧ (t.ports.get p).waitRise = (s.ports.get p).waitRise
      ∧ ((s.ports.get p).framer = .awaitCode ∨ (s.ports.get p).framer = .arguments →
          (t.ports.get p).framer = .awaitCode ∧ (t.ports.get p).inProgress = none)
      ∧ ((s.ports.get p).framer ≠ .deselected →
          match (s.ports.get p).response with
          | none => (t.ports.get p).response = none ∧ (t.ports.get p).sdo = 0
          | some r =>
            match r.bytes[r.index]? with
            | some b => (t.ports.get p).sdo = b
                ∧ (t.ports.get p).response = some ⟨r.bytes, r.index + 1⟩
            | none => (t.ports.get p).sdo = 0 ∧ (t.ports.get p).response = none) := by
  obtain ⟨t, next, others, own⟩ := commandTaken_framing h (takeCommand_kept noRead)
  simp only [PortState.framing, Prod.mk.injEq] at own
  obtain ⟨framer, progress, response, sdo, wait⟩ := own
  refine ⟨t, (exec_eq_commandTaken sender s).trans next, others, ?_, fun decoding => ?_,
    fun inFrame => ?_⟩
  · simpa using wait
  · rw [framer_slotBegun, commandFramed_of_decoding decoding] at framer
    rw [inProgress_slotBegun, commandFramed_of_decoding decoding] at progress
    exact ⟨framer, progress⟩
  · have frame := mt (commandFramed_deselected_iff (s.ports.get p)).mp inFrame
    rw [response, sdo]
    split
    · next empty =>
      rw [slotBegun_of_empty frame (by simpa using empty)]
      simpa using empty
    · next r going =>
      have buffer : (s.ports.get p).commandFramed.response = some r := by simpa using going
      split
      · next b byte => rw [slotBegun_of_byte frame buffer byte]; exact ⟨rfl, rfl⟩
      · next sent => rw [slotBegun_of_sent frame buffer sent]; exact ⟨rfl, rfl⟩

/-! ## Read Status -/

/-- A response put in the buffer while a command is taken answers it (R194), whatever else its
effect does outside the framing. -/
theorem respond_answered {p : Port} {code : Byte} {body : List Byte} {s v : State}
    (h : FramingKept ((s.onPort p (·.commandFramed)).respond p code body) v) :
    Answered p code body s (v.onPort p (·.slotBegun)) := by
  refine ⟨fun q other => ?_, ?_⟩
  · have same := h q
    simp only [State.respond, State.onPort_ports, PerPort_get_modify, if_neg other] at same ⊢
    exact same
  · have own := h p
    simp only [State.respond, State.onPort_ports, PerPort_get_modify, if_true] at own ⊢
    have slot := framing_slotBegun_congr own
    simp only [PortState.framing, Prod.mk.injEq] at slot
    obtain ⟨-, -, response, sdo, -⟩ := slot
    rw [response, sdo]
    split
    · next outside => rw [slotBegun_of_deselected (by simpa using outside)]
    · next inFrame =>
      rw [slotBegun_of_byte (r := ⟨responseOf code body, 0⟩) (b := code) (by simpa using inFrame)
        rfl rfl]
      exact ⟨rfl, rfl⟩

/-- The four bytes of an event set, most significant first (R207). -/
theorem numBytes_four (x : BitVec 32) :
    numBytes 4 x.toNat = [x.extractLsb' 24 8, x.extractLsb' 16 8, x.extractLsb' 8 8,
      x.extractLsb' 0 8] := by
  have byte (k : Nat) : BitVec.ofNat 8 (x.toNat / 2 ^ k) = x.extractLsb' k 8 := by
    rw [BitVec.extractLsb', Nat.shiftRight_eq_div_pow]
  simp [numBytes, ← byte, Nat.div_div_eq_div_mul]

/-- The event set and the last refusal in seven bytes (R198, R207). -/
theorem statusBody_eq (x : PortState) :
    x.statusBody = [x.events.extractLsb' 24 8, x.events.extractLsb' 16 8,
        x.events.extractLsb' 8 8, x.events.extractLsb' 0 8]
      ++ (match x.lastRefusal with
        | none => [0, 0, 0]
        | some ⟨r, code⟩ => [1, BitVec.ofNat 8 ([Reason.unknown, .rights, .busy, .state, .range,
            .full, .stale, .incomplete].idxOf r), code]) := by
  rw [PortState.statusBody, numBytes_four]
  match x.lastRefusal with
  | none => rfl
  | some ⟨r, code⟩ => cases r <;> rfl

theorem statusBody_congr {x y : PortState} (h : x.record = y.record) :
    x.statusBody = y.statusBody := by
  simp only [PortState.record, Prod.mk.injEq] at h
  obtain ⟨events, -, last⟩ := h
  rw [PortState.statusBody, PortState.statusBody, events, last]

/-- The record of a port whose event set has been read (R198). -/
theorem record_emptied (x : PortState) :
    ({ x with events := 0 }.rederiveAttn).record = (0, false, x.lastRefusal) := by
  simp [PortState.rederiveAttn, PortState.record]

/-- The event set of a port read and emptied moves the records alone. -/
theorem onPort_emptied_outside (s : State) (p : Port) :
    SameBut [.records] s (s.onPort p fun x => { x with events := 0 }.rederiveAttn) := by
  intro b
  cases b <;> simp [Block.same]
  all_goals intro q; split <;> simp [PortState.framing, PortState.rederiveAttn]

/-- Read Status by R198. -/
theorem exec_readStatus_next (p : Port) (s : State) (h : s.inReset = false) :
    ∃ t, exec (.readStatus p) s = .next t
      ∧ Answered p 0x01 (s.ports.get p).statusBody s t
      ∧ (t.ports.get p).record = (0, false, (s.ports.get p).lastRefusal)
      ∧ (∀ q, q ≠ p → (t.ports.get q).record = (s.ports.get q).record)
      ∧ SameBut [.framing, .records] s t := by
  have framed := onPort_framing_outside s p (·.commandFramed) (by simp) (by simp) (by simp)
  have body :
      ((s.onPort p (·.commandFramed)).ports.get p).statusBody = (s.ports.get p).statusBody :=
    statusBody_congr ((framed.same .records) p)
  have answer (u : State) (b : List Byte) : SameBut [.framing] u (u.respond p Code.readStatus b) :=
    onPort_framing_outside u p _ (fun _ => rfl) (fun _ => rfl) (fun _ => rfl)
  have slot (v : State) : SameBut [.framing] v (v.onPort p (·.slotBegun)) :=
    onPort_framing_outside v p (·.slotBegun) (by simp) (by simp) (by simp)
  have before := SameBut_seq (c := [.framing]) framed (answer _ (s.ports.get p).statusBody)
  refine ⟨_, commandTaken_next h, ?_⟩
  rw [takeReadStatus, body]
  refine ⟨respond_answered (.outside (onPort_emptied_outside _ p) rfl), ?_, fun q other => ?_,
    SameBut_seq (SameBut_seq (c := [.framing, .records]) before (onPort_emptied_outside _ p))
      (slot _)⟩
  · have last := (before.same .records) p
    simp only [PortState.record, Prod.mk.injEq] at last
    obtain ⟨-, -, last⟩ := last
    rw [((slot _).same .records) p, State.onPort_ports, PerPort_get_modify, if_pos rfl,
      record_emptied, last]
  · rw [((slot _).same .records) q, State.onPort_ports, PerPort_get_modify, if_neg other]
    exact (before.same .records) q

/-- Settles O9: the commands that are no read, then Read Status with its body by R207. -/
theorem responsesAndReadStatus : Obligations.ResponsesAndReadStatus := by
  refine ⟨exec_framing_next, fun p s h => ?_⟩
  obtain ⟨t, next, answered, record, others, frame⟩ := exec_readStatus_next p s h
  rw [statusBody_eq] at answered
  simp only [PortState.record, Prod.mk.injEq] at record
  obtain ⟨events, attn, last⟩ := record
  exact ⟨t, next, answered, events, attn, last, others, frame⟩

end Sys2Proof.Machine
end

section
/-! What every step keeps: the parts of the invariants and of the frames that a walk over the whole model
establishes at once, and the changes of one block that keep them. -/

namespace Sys2Proof.Machine

-- One theorem at a time: each waits for the kernel, and many waiting at once are many threads.
set_option Elab.async false

/-! ## The parts -/

/-- What a step may keep: the invariants that are claimed of every step, and what only certain commands
change (`settings`, `grant`, `fault`, `seatFault`, `model`). -/
inductive Part
  | ports | drive | permit | shaped | stream | bounded | rising | force | pairs
  | settings | grant | fault | seatFault | model
  deriving DecidableEq

/-- A part is kept from one state to another. -/
def Part.kept (s t : State) : Part → Prop
  | .ports => s.PortsSound → t.PortsSound
  | .drive => s.DriveSafe → t.DriveSafe
  | .permit => s.PermitSound → t.PermitSound
  | .shaped => s.RunsShaped → t.RunsShaped
  | .stream => s.StreamSound → t.StreamSound
  | .bounded => s.Bounded → t.Bounded
  | .rising => s.RampsRising → t.RampsRising
  | .force => s.SettingsInForce → t.SettingsInForce
  | .pairs => s.PairsExclusive → t.PairsExclusive
  | .settings => Block.settings.same s t ∧ Block.masks.same s t
  | .grant => s.permit.state ≠ .granted → t.permit.state ≠ .granted
  | .fault => s.motion.phase = .faulted → t.motion.phase = .faulted ∧ t.motion.fault = s.motion.fault
  | .seatFault => ∀ i, (s.seat i).state = .fault →
      (t.seat i).state = .fault ∧ (t.seat i).cause = (s.seat i).cause
  | .model => t.inReset = s.inReset ∧ t.pending = s.pending

/-- The blocks that a part speaks of. -/
def Part.blocks : Part → List Block
  | .ports => [.records, .masks]
  | .drive => [.motion, .drive, .turntable, .seats]
  | .permit => [.permit, .seats]
  | .shaped => [.motion, .turntable]
  | .stream => [.sound]
  | .bounded => [.motion, .route, .cues]
  | .rising => [.settings, .turntable]
  | .force => [.settings, .seats, .route]
  | .pairs => [.settings, .effects]
  | .settings => [.settings, .masks]
  | .grant => [.permit]
  | .fault => [.motion]
  | .seatFault => [.seats]
  | .model => [.model]

/-- A part is kept where its blocks are the same. -/
theorem Part.kept_of_same {x : Part} {s t : State} (h : ∀ b ∈ x.blocks, b.same s t) : x.kept s t := by
  cases x <;> simp only [Part.blocks, List.mem_cons, List.not_mem_nil, or_false, forall_eq_or_imp,
    forall_eq, Block.same] at h
  case ports =>
    obtain ⟨records, masks⟩ := h
    intro sound p
    obtain ⟨clear, attn⟩ := sound p
    have record := records p
    simp only [PortState.record, Prod.mk.injEq] at record
    obtain ⟨events, attn', -⟩ := record
    exact ⟨by rw [events]; exact clear, by rw [attn', events, (masks p).1]; exact attn⟩
  case drive =>
    obtain ⟨motion, drive, tt, seats⟩ := h
    simp only [Part.kept, State.DriveSafe, State.driveWanted, motion, drive, tt, seats]
    exact id
  case permit =>
    obtain ⟨permit, seats⟩ := h
    simp only [Part.kept, State.PermitSound, State.fitted, State.seat, permit, seats]
    exact id
  case shaped =>
    obtain ⟨motion, tt⟩ := h
    simp only [Part.kept, State.RunsShaped, motion, tt]
    exact id
  case stream =>
    simp only [Part.kept, State.StreamSound, State.voice, State.clipOn, h]
    exact id
  case bounded =>
    obtain ⟨motion, route, cues⟩ := h
    simp only [Part.kept, State.Bounded, motion, route, cues]
    exact id
  case rising =>
    obtain ⟨settings, tt⟩ := h
    simp only [Part.kept, State.RampsRising, settings, tt]
    exact id
  case force =>
    obtain ⟨settings, seats, route⟩ := h
    simp only [Part.kept, State.SettingsInForce, State.fitted, State.seat, settings, seats, route]
    exact id
  case pairs =>
    obtain ⟨settings, effects⟩ := h
    simp only [Part.kept, State.PairsExclusive, State.exclusive, State.channel, settings, effects]
    exact id
  case settings => exact h
  case grant => simp [Part.kept, h]
  case fault => simp +contextual [Part.kept, h]
  case seatFault => simp +contextual [Part.kept, State.seat, h]
  case model => exact ⟨h.1, h.2.2⟩

/-! ## What a change keeps -/

/-- Every part outside the list is kept. -/
def Keeps (e : List Part) (s t : State) : Prop := ∀ x, x ∈ e ∨ x.kept s t

namespace Keeps
variable {e : List Part} {s t u : State}

/-- What a frame does not touch is kept. -/
theorem outside {a : List Block} (h : SameBut a s t)
    (k : ∀ x : Part, (∃ b ∈ x.blocks, b ∈ a) → x ∈ e ∨ x.kept s t) : Keeps e s t := by
  intro x
  by_cases touched : ∃ b ∈ x.blocks, b ∈ a
  · exact k x touched
  · exact .inr (Part.kept_of_same fun b hb => (h b).resolve_left fun hm => touched ⟨b, hb, hm⟩)

theorem refl (s : State) : Keeps e s s :=
  fun _ => .inr (Part.kept_of_same fun b _ => b.same_refl s)

theorem trans (h : Keeps e s t) (k : Keeps e t u) : Keeps e s u := by
  intro x
  rcases h x with h | h
  · exact .inl h
  rcases k x with k | k
  · exact .inl k
  refine .inr ?_
  cases x with
  | settings => exact ⟨Block.same_trans h.1 k.1, Block.same_trans h.2 k.2⟩
  | fault => exact fun f => ⟨(k (h f).1).1, (k (h f).1).2.trans (h f).2⟩
  | seatFault => exact fun i f => ⟨(k i (h i f).1).1, (k i (h i f).1).2.trans (h i f).2⟩
  | model => exact ⟨k.1.trans h.1, k.2.trans h.2⟩
  | _ => exact fun i => k (h i)

theorem mono {e' : List Part} (h : Keeps e s t) (k : ∀ x ∈ e, x ∈ e' := by decide) :
    Keeps e' s t := fun x => (h x).imp_left (k x)

theorem weaken (h : Keeps [] s t) : Keeps e s t := h.mono (by simp)

/-- A part that the steps in between break is kept by the whole. -/
theorem patch {x : Part} (h : Keeps (x :: e) s t) (k : x.kept s t) : Keeps e s t := by
  intro y
  rcases h y with m | m
  · rcases List.mem_cons.mp m with rfl | m
    · exact .inr k
    · exact .inl m
  · exact .inr m

theorem ite {c : Prop} [Decidable c] (h : c → Keeps e s t) (k : ¬ c → Keeps e s u) :
    Keeps e s (if c then t else u) := by
  split
  · next c => exact h c
  · next c => exact k c

theorem foldl {α : Type} {f : State → α → State} (h : ∀ s x, Keeps e s (f s x)) (l : List α)
    (s : State) : Keeps e s (l.foldl f s) := by
  induction l generalizing s with
  | nil => exact refl s
  | cons x l ih => exact (h s x).trans (ih _)

/-- A part that is not excepted is kept. -/
theorem part (h : Keeps e s t) (x : Part) (k : x ∉ e := by decide) : x.kept s t :=
  (h x).resolve_left k

end Keeps

/-! ## Changes of one block -/

section
variable {e : List Part} (s : State)

theorem onSound_keeps {f : SoundUnit → SoundUnit} (h : s.StreamSound → (s.onSound f).StreamSound) :
    Keeps e s (s.onSound f) := by
  refine .outside (onSound_outside s f) fun x touched => ?_
  cases x <;> simp [Part.blocks] at touched
  exact .inr h

theorem onEffects_keeps {f : EffectBank → EffectBank}
    (h : s.PairsExclusive → (s.onEffects f).PairsExclusive) : Keeps e s (s.onEffects f) := by
  refine .outside (onEffects_outside s f) fun x touched => ?_
  cases x <;> simp [Part.blocks] at touched
  exact .inr h

theorem onCues_keeps {f : CueEngine → CueEngine}
    (h : s.cues.log.length ≤ Config.logCapacity → (f s.cues).log.length ≤ Config.logCapacity) :
    Keeps e s (s.onCues f) := by
  refine .outside (onCues_outside s f) fun x touched => ?_
  cases x <;> simp [Part.blocks] at touched
  exact .inr fun ⟨queue, table, ids, log⟩ => ⟨queue, table, ids, h log⟩

theorem withPins_keeps (x : Pins) : Keeps e s (s.withPins x) := by
  refine .outside (withPins_outside s x) fun x touched => ?_
  cases x <;> simp [Part.blocks] at touched

theorem spendFree_keeps (n : Nat) : Keeps e s (s.spendFree n) := by
  refine .outside (spendFree_outside s n) fun x touched => ?_
  cases x <;> simp [Part.blocks] at touched
  exact .inr ⟨rfl, rfl⟩

/-- A change of the Drive Pulse Unit that neither turns the drives on or off nor releases the brake. -/
theorem onDrive_keeps {f : DriveUnit → DriveUnit} (enable : (f s.drive).enable = s.drive.enable)
    (brake : (f s.drive).brakeRelease = true → s.drive.brakeRelease = true) :
    Keeps e s (s.onDrive f) := by
  refine .outside (onDrive_outside s f) fun x touched => ?_
  cases x <;> simp [Part.blocks] at touched
  refine .inr fun ⟨wanted, told, released, faulted⟩ => ⟨?_, ?_, fun b => released (brake b), faulted⟩
  · exact enable.trans wanted
  · exact told.trans enable.symm

/-- A change of the Route Counter that keeps the marker table, error counts and conditions. -/
theorem onRoute_keeps {f : RouteCounter → RouteCounter}
    (markers : (f s.route).markers = s.route.markers) (errors : (f s.route).errors = s.route.errors)
    (conditions : (f s.route).conditions = s.route.conditions) : Keeps e s (s.onRoute f) := by
  refine .outside (onRoute_outside s f) fun x touched => ?_
  cases x <;> simp [Part.blocks] at touched
  · refine .inr ?_
    simp only [Part.kept, State.Bounded, State.onRoute_route, markers]
    exact id
  · refine .inr ?_
    simp only [Part.kept, State.SettingsInForce, State.onRoute_route, errors, conditions]
    exact id

/-- A change of the marker table within its capacity and order. -/
theorem onRoute_markers_keeps {l : List Marker}
    (table : s.route.markers.length ≤ Config.markerCapacity →
      (s.route.markers.map (·.id)).Pairwise (· < ·) →
      l.length ≤ Config.markerCapacity ∧ (l.map (·.id)).Pairwise (· < ·)) :
    Keeps e s (s.onRoute fun r => { r with markers := l }) := by
  refine .outside (onRoute_outside s _) fun x touched => ?_
  cases x <;> simp [Part.blocks] at touched
  · refine .inr fun ⟨queue, size, sorted, log⟩ => ?_
    obtain ⟨size, sorted⟩ := table size sorted
    exact ⟨queue, size, sorted, log⟩
  · exact .inr id

/-- A change of the permit after which it is not held. -/
theorem onPermit_keeps_of_lost {f : Permit → Permit} (h : (f s.permit).state = .noPermit) :
    Keeps e s (s.onPermit f) := by
  refine .outside (onPermit_outside s f) fun x touched => ?_
  cases x <;> simp [Part.blocks] at touched
  · exact .inr fun _ held => absurd h held
  · exact .inr fun _ => by simp [h]

/-- A change of the permit that keeps its state and the check generation. -/
theorem onPermit_keeps {f : Permit → Permit} (state : (f s.permit).state = s.permit.state)
    (generation : (f s.permit).generation = s.permit.generation) : Keeps e s (s.onPermit f) := by
  refine .outside (onPermit_outside s f) fun x touched => ?_
  cases x <;> simp [Part.blocks] at touched
  · refine .inr ?_
    simp only [Part.kept, State.PermitSound, State.onPermit_permit, state, generation]
    exact id
  · exact .inr fun free => by simpa [state] using free

/-- A change of the turntable. -/
theorem onTurntable_keeps {f : Turntable → Turntable}
    (position : s.tt.position < s.settings.countsPerRevolution →
      (f s.tt).position < s.settings.countsPerRevolution)
    (shaped : .shaped ∈ e ∨ (s.RunsShaped → (s.onTurntable f).RunsShaped))
    (drive : .drive ∈ e ∨ ((f s.tt).phase = .idle ↔ s.tt.phase = .idle)) :
    Keeps e s (s.onTurntable f) := by
  refine .outside (onTurntable_outside s f) fun x touched => ?_
  cases x <;> simp [Part.blocks] at touched
  · refine drive.imp_right fun same => ?_
    have wanted : ((f s.tt).phase != .idle) = (s.tt.phase != .idle) := by
      rw [Bool.eq_iff_iff]; simp [same]
    simp only [Part.kept, State.DriveSafe, State.driveWanted, State.onTurntable_tt, wanted]
    exact id
  · exact shaped
  · exact .inr fun ⟨wheels, table, p⟩ => ⟨wheels, table, position p⟩

/-- A seat whose standing, fault and confirmation stay. -/
theorem setSeat_keeps {i : Fin 8} {y : Seat}
    (fitted : y.state = .notFitted ↔ (s.seat i).state = .notFitted)
    (fault : .seatFault ∈ e ∨ ((s.seat i).state = .fault →
      y.state = .fault ∧ y.cause = (s.seat i).cause))
    (confirmed : .permit ∈ e ∨ s.permit.state = .noPermit ∨ ((s.seat i).state = .confirmed →
      y.state = .confirmed ∧ y.confirmGeneration = (s.seat i).confirmGeneration)) :
    Keeps e s (s.setSeat i y) := by
  have standing (j : Fin 8) : (s.setSeat i y).fitted j = s.fitted j := by
    rw [State.fitted, State.seat_setSeat]
    split
    · next h => subst h; rw [State.fitted, Bool.eq_iff_iff]; simp [fitted]
    · rfl
  refine .outside (setSeat_outside s i y) fun x touched => ?_
  cases x <;> simp [Part.blocks] at touched
  · exact .inr id
  · refine confirmed.imp_right fun kept sound held j hj => ?_
    rw [standing] at hj
    have was := sound held j hj
    rw [State.seat_setSeat]
    split
    · next h =>
      subst h
      obtain ⟨state, generation⟩ := (kept.resolve_left held) was.1
      exact ⟨state, generation.trans was.2⟩
    · exact was
  · refine .inr ?_
    simp only [Part.kept, State.SettingsInForce, standing]
    exact id
  · refine fault.imp_right fun kept j hj => ?_
    rw [State.seat_setSeat]
    split
    · next h => subst h; exact kept hj
    · exact ⟨hj, rfl⟩

/-- A change of the Motion Generator, the phase included. -/
theorem onMotion_keeps {f : MotionGenerator → MotionGenerator}
    (shaped : .shaped ∈ e ∨ (s.RunsShaped → (s.onMotion f).RunsShaped))
    (queue : (f s.motion).queue.length ≤ s.motion.queue.length)
    (drive : .drive ∈ e ∨ ((f s.motion).phase.drives = s.motion.phase.drives
      ∧ (f s.motion).servoLatch = s.motion.servoLatch
      ∧ ((f s.motion).phase = .faulted → s.motion.phase = .faulted)))
    (fault : .fault ∈ e ∨ (s.motion.phase = .faulted →
      (f s.motion).phase = .faulted ∧ (f s.motion).fault = s.motion.fault)) :
    Keeps e s (s.onMotion f) := by
  refine .outside (onMotion_outside s f) fun x touched => ?_
  cases x <;> simp [Part.blocks] at touched
  · refine drive.imp_right fun ⟨drives, latch, faulted⟩ => ?_
    simp only [Part.kept, State.DriveSafe, State.driveWanted, State.onMotion_motion, drives, latch]
    exact fun ⟨wanted, told, released, off⟩ => ⟨wanted, told, released, fun f => off (faulted f)⟩
  · exact shaped
  · exact .inr fun ⟨capacity, table, ids, log⟩ => ⟨queue.trans capacity, table, ids, log⟩
  · exact fault

end

/-! ## Ports -/

theorem flag_toNat_lt (e : Event) : e.flag.toNat < 2 ^ 29 := by cases e <;> decide

/-- The part of a port's soundness that a latched event keeps. -/
theorem sound_latch {x : PortState} (e : Event) (h : x.Sound) : (x.latch e).Sound := by
  refine ⟨?_, rfl⟩
  rw [events_latch, BitVec.toNat_or]
  exact Nat.or_lt_two_pow h.1 (flag_toNat_lt e)

section
variable {e : List Part} (s : State)

/-- What touches the records of the ports alone, each port's soundness being kept. -/
theorem keeps_of_records {t : State} (h : SameBut [.records] s t)
    (sound : ∀ p, (s.ports.get p).Sound → (t.ports.get p).Sound) : Keeps e s t := by
  refine .outside h fun x touched => ?_
  cases x <;> simp [Part.blocks] at touched
  exact .inr fun all p => sound p (all p)

theorem latch_keeps (d : Event) : Keeps e s (s.latch d) :=
  keeps_of_records s (latch_outside s d) fun p h => by simpa using sound_latch d h

theorem latchEntry_keeps (ph : Phase) : Keeps e s (s.latchEntry ph) := by
  refine keeps_of_records s (latchEntry_outside s ph) fun p h => ?_
  rw [State.latchEntry_ports, PerPort_get_map]
  split
  · exact sound_latch _ h
  · exact h

theorem refuse_keeps (p : Port) (r : Reason) (code : Byte) : Keeps e s (s.refuse p r code) := by
  refine keeps_of_records s (refuse_outside s p r code) fun q h => ?_
  rw [State.refuse_ports, PerPort_get_modify]
  split
  · exact sound_latch .refused (x := { s.ports.get q with lastRefusal := some ⟨r, code⟩ }) h
  · exact h

/-- A port's event set read and emptied. -/
theorem emptied_keeps (p : Port) :
    Keeps e s (s.onPort p fun x => { x with events := 0 }.rederiveAttn) := by
  refine keeps_of_records s (onPort_emptied_outside s p) fun q h => ?_
  rw [State.onPort_ports, PerPort_get_modify]
  split
  · exact ⟨by simp [PortState.rederiveAttn], rfl⟩
  · exact h

/-- What the bytes of a port move. -/
theorem framing_keeps (p : Port) {f : PortState → PortState} (r : ∀ x, (f x).record = x.record)
    (m : ∀ x, (f x).mask = x.mask) (w : ∀ x, (f x).watch = x.watch) : Keeps e s (s.onPort p f) := by
  refine .outside (onPort_framing_outside s p f r m w) fun x touched => ?_
  cases x <;> simp [Part.blocks] at touched

theorem respond_keeps (p : Port) (code : Byte) (body : List Byte) :
    Keeps e s (s.respond p code body) :=
  framing_keeps s p (fun _ => rfl) (fun _ => rfl) (fun _ => rfl)

theorem commandFramed_keeps (p : Port) : Keeps e s (s.onPort p (·.commandFramed)) :=
  framing_keeps s p (by simp) (by simp) (by simp)

theorem slotBegun_keeps (p : Port) : Keeps e s (s.onPort p (·.slotBegun)) :=
  framing_keeps s p (by simp) (by simp) (by simp)

end

end Sys2Proof.Machine
end

section
/-! The Effect Timer Bank keeps exclusive pairs exclusive (R158, R160). -/

namespace Sys2Proof.Machine

-- One theorem at a time: each waits for the kernel, and many waiting at once are many threads.
set_option Elab.async false

/-! ## Pairs -/

@[simp] theorem pairOf_lowerOf (p : Fin 6) : pairOf (lowerOf p) = p := by revert p; decide
@[simp] theorem pairOf_upperOf (p : Fin 6) : pairOf (upperOf p) = p := by revert p; decide
@[simp] theorem partnerOf_lowerOf (p : Fin 6) : partnerOf (lowerOf p) = upperOf p := by revert p; decide
@[simp] theorem partnerOf_upperOf (p : Fin 6) : partnerOf (upperOf p) = lowerOf p := by revert p; decide
@[simp] theorem pairOf_partnerOf (c : Fin 12) : pairOf (partnerOf c) = pairOf c := by revert c; decide
@[simp] theorem partnerOf_partnerOf (c : Fin 12) : partnerOf (partnerOf c) = c := by revert c; decide
theorem partnerOf_ne (c : Fin 12) : partnerOf c ≠ c := by revert c; decide

theorem lower_or_upper (c : Fin 12) : c = lowerOf (pairOf c) ∧ partnerOf c = upperOf (pairOf c)
    ∨ c = upperOf (pairOf c) ∧ partnerOf c = lowerOf (pairOf c) := by
  revert c; decide

/-- No channel of an exclusive pair is active beside its partner. -/
theorem pairsExclusive_iff (s : State) : s.PairsExclusive ↔
    ∀ c, s.exclusive (pairOf c) = true → (s.channel c).state.active = true →
      (s.channel (partnerOf c)).state.active = false := by
  constructor
  · intro h c excl active
    have apart := h (pairOf c) excl
    rcases lower_or_upper c with ⟨own, other⟩ | ⟨own, other⟩
    all_goals
      rw [← own, ← other] at apart
      simpa [active] using apart
  · intro h p excl ⟨low, up⟩
    have := h (lowerOf p) (by simpa using excl) low
    simp_all

/-- The lines that a pattern change of one channel keeps: an active channel of an exclusive pair was
active before, or finds its partner inactive. -/
theorem setChannel_pairs {s : State} {c : Fin 12} {x : Channel}
    (h : x.state.active = true → s.exclusive (pairOf c) = true →
      (s.channel c).state.active = true ∨ (s.channel (partnerOf c)).state.active = false)
    (sound : s.PairsExclusive) : (s.setChannel c x).PairsExclusive := by
  rw [pairsExclusive_iff] at sound ⊢
  intro d excl active
  have excl' : s.exclusive (pairOf d) = true := excl
  simp only [State.channel_setChannel] at active ⊢
  have old := sound c
  by_cases hd : c = d
  · subst hd
    simp only [if_neg (partnerOf_ne c).symm, if_true] at active ⊢
    rcases h active excl' with was | free
    · exact old excl' was
    · exact free
  · rw [if_neg hd] at active
    split
    · next hp =>
      subst hp
      have pair : s.exclusive (pairOf (partnerOf d)) = true := by simpa using excl'
      by_contra up
      rcases h (by simpa using up) pair with was | free
      · have := old pair was; simp [active] at this
      · simp [active] at free
    · exact sound d excl' active

section
variable {e : List Part} (s : State)

theorem setChannel_keeps {c : Fin 12} {x : Channel}
    (h : x.state.active = true → s.exclusive (pairOf c) = true →
      (s.channel c).state.active = true ∨ (s.channel (partnerOf c)).state.active = false) :
    Keeps e s (s.setChannel c x) := onEffects_keeps s (setChannel_pairs h)

/-- A channel that is not active after the change leaves no pair both active. -/
theorem setChannel_inactive_keeps {c : Fin 12} {x : Channel} (h : x.state.active = false) :
    Keeps e s (s.setChannel c x) :=
  setChannel_keeps s fun active => by simp [h] at active

theorem setChannel_same_keeps {c : Fin 12} {x : Channel}
    (h : x.state.active = true → (s.channel c).state.active = true) :
    Keeps e s (s.setChannel c x) := setChannel_keeps s fun active _ => .inl (h active)

theorem onEffects_channel_keeps {f : EffectBank → EffectBank}
    (h : (f s.effects).channel = s.effects.channel) : Keeps e s (s.onEffects f) := by
  refine onEffects_keeps s ?_
  simp only [State.PairsExclusive, State.exclusive, State.channel, State.onEffects_effects, h]
  exact id

theorem effectOff_keeps (c : Fin 12) : Keeps e s (s.effectOff c) :=
  .ite (fun _ => setChannel_inactive_keeps s rfl) fun _ => .refl s

/-- The operation OFF leaves its channel inactive. -/
theorem effectOff_inactive (c : Fin 12) : ((s.effectOff c).channel c).state.active = false := by
  unfold State.effectOff
  split
  · simp [Channel.stopped, ChannelState.active]
  · next h => simpa using h

theorem startPattern_keeps (c : Fin 12) (pat : Pattern) : Keeps e s (s.startPattern c pat) := by
  unfold State.startPattern
  split
  · exact (effectOff_keeps s _).trans
      (setChannel_keeps _ fun _ _ => .inr (effectOff_inactive s (partnerOf c)))
  · next free =>
    exact setChannel_keeps s fun _ excl => absurd excl free

theorem completeEffect_keeps (c : Fin 12) : Keeps e s (s.completeEffect c) := by
  have done : Keeps e s ((s.setChannel c { (s.channel c).stopped .off with
      completions := ((s.channel c).completions + 1) % 256 }).latch .effectDone) :=
    (setChannel_inactive_keeps s rfl).trans (latch_keeps _ _)
  unfold State.completeEffect
  dsimp only
  split
  · exact done
  · split
    · split
      · exact .ite (fun _ => done) fun _ => done.trans (startPattern_keeps _ _ _)
      · exact done
    · exact done

theorem effectIntervalEnd_keeps (c : Fin 12) : Keeps e s (s.effectIntervalEnd c) := by
  unfold State.effectIntervalEnd
  dsimp only
  split
  · split
    case h_1 => exact completeEffect_keeps s c
    case h_2 state =>
      exact .ite (fun _ => setChannel_same_keeps s fun _ => by rw [state]; rfl)
        fun _ => completeEffect_keeps s c
    case h_6 => exact .refl s
    all_goals next state => exact setChannel_same_keeps s fun _ => by rw [state]; rfl
  · exact .refl s

theorem effectLockout_keeps (p : Fin 6) : Keeps e s (s.effectLockout p) :=
  .ite (fun _ => .refl s) fun _ =>
    (((setChannel_inactive_keeps s rfl).trans (setChannel_inactive_keeps _ rfl)).trans
      (onEffects_channel_keeps _ rfl)).trans (latch_keeps _ _)

theorem effectShowStop_keeps : Keeps e s s.effectShowStop :=
  .foldl (fun t c => .ite (fun _ => effectOff_keeps t c) fun _ => .refl t) _ s

theorem effectReset_keeps : Keeps e s s.effectReset := by
  have silenced (t : State) (c : Fin 12) :
      Keeps e t (t.setChannel c { (t.channel c).stopped .off with armed := none }) :=
    setChannel_inactive_keeps t rfl
  unfold State.effectReset
  refine (Keeps.foldl silenced allChannels s).trans ?_
  generalize allChannels.foldl _ s = t
  exact onEffects_channel_keeps t rfl

theorem conflictSample_keeps (p : Fin 6) : Keeps e s (s.conflictSample p) :=
  .ite (fun _ => onEffects_channel_keeps s rfl) fun _ => .refl s

theorem settleEffects_keeps : Keeps e s s.settleEffects :=
  (Keeps.foldl effectIntervalEnd_keeps allChannels s).trans (.foldl effectLockout_keeps allPairs _)

theorem carrierMoved_keeps :
    Keeps e s (s.onEffects fun b => { b with carrierSecond := !b.carrierSecond }) :=
  onEffects_channel_keeps s rfl

theorem intervalFallen_keeps (c : Fin 12) :
    Keeps e s (s.setChannel c (s.channel c).intervalFallen) :=
  setChannel_same_keeps s id

theorem effectTick_keeps (pins : Pins) (ends : Ends) : Keeps e s (s.effectTick pins ends) := by
  have ticked := ((((settleEffects_keeps (e := e) s).trans (withPins_keeps _ pins)).trans
    (carrierMoved_keeps _)).trans (.foldl intervalFallen_keeps allChannels _)).trans
    (.foldl conflictSample_keeps allPairs _)
  exact .ite (fun _ => ticked.trans (settleEffects_keeps _)) fun _ => ticked

end

end Sys2Proof.Machine
end

section
/-! The Sound Unit keeps voices, clip table and flash port in agreement (R169, R171, R179, R180). -/

namespace Sys2Proof.Machine

/-! ## One voice -/

/-- What a voice's record says beside its unit's clip table and flash port. -/
structure Voice.Streamed (u : SoundUnit) (v : Fin 6) (x : Voice) : Prop where
  idle : x.state = .idle ↔ x.clip = none
  clip : x.clip.isSome = (x.clip.bind u.clipOf).isSome
  fade : x.fade.isSome ↔ x.state = .fadingOut
  fifo : x.fifo.length ≤ 512
  refill : x.refillInFlight = u.flash.any (·.owner = .voice v)
  busy : x.refillInFlight = true → x.state ≠ .idle

theorem State.StreamSound.voice {s : State} (h : s.StreamSound) (v : Fin 6) :
    (s.voice v).Streamed s.sound v := by
  obtain ⟨idle, clip, fade, fifo, refill, busy⟩ := h.1 v
  exact ⟨idle, clip, fade, fifo, refill, busy⟩

theorem State.StreamSound.mounting {s : State} (h : s.StreamSound) (m : s.sound.mount.isSome) (v : Fin 6) :
    (s.voice v).state = .idle := h.2.2.1 m v

/-- An idle voice has no refill in flight. -/
theorem State.StreamSound.idle_free {s : State} (h : s.StreamSound) {v : Fin 6}
    (idle : (s.voice v).state = .idle) : s.sound.flash.any (·.owner = .voice v) = false := by
  have x := h.voice v
  rw [← x.refill, Bool.eq_false_iff]
  exact fun busy => x.busy busy idle

/-- The invariant of streams from its parts. -/
theorem streamSound_of {s : State} (voices : ∀ v, (s.voice v).Streamed s.sound v)
    (port : ∀ r, s.sound.flash = some r → match r.owner with
      | .mount => s.sound.mount.isSome
      | .voice v => r.arrived ≤ r.samples
          ∧ (s.voice v).fifo.length + (r.samples - r.arrived) ≤ 512)
    (mount : s.sound.mount.isSome → ∀ v, (s.voice v).state = .idle)
    (clips : (s.sound.clips.map (·.id)).Pairwise (· < ·)) : s.StreamSound :=
  ⟨fun v => ⟨(voices v).idle, (voices v).clip, (voices v).fade, (voices v).fifo, (voices v).refill,
    (voices v).busy⟩, port, mount, clips⟩

/-- A voice whose record changes within its state of play. -/
theorem setVoice_stream {s : State} {v : Fin 6} {x : Voice} (clip : x.clip = (s.voice v).clip)
    (idle : x.state = .idle ↔ (s.voice v).state = .idle)
    (fade : ((s.voice v).fade.isSome ↔ (s.voice v).state = .fadingOut) →
      (x.fade.isSome ↔ x.state = .fadingOut))
    (fifo : x.fifo.length ≤ (s.voice v).fifo.length)
    (refill : x.refillInFlight = (s.voice v).refillInFlight)
    (h : s.StreamSound) : (s.setVoice v x).StreamSound := by
  have ⟨_, port, mount, clips⟩ := h
  refine streamSound_of (fun w => ?_) (fun r hr => ?_) (fun m w => ?_) clips
  · have old := h.voice w
    rw [State.voice_setVoice]
    split
    · next same =>
      subst same
      exact ⟨by rw [idle, clip]; exact old.idle, by rw [clip]; exact old.clip, fade old.fade,
        fifo.trans old.fifo, refill.trans old.refill, fun b => by
          rw [refill] at b; exact fun i => old.busy b (idle.mp i)⟩
    · exact ⟨old.idle, old.clip, old.fade, old.fifo, old.refill, old.busy⟩
  · have was := port r hr
    cases o : r.owner with
    | mount => rw [o] at was; exact was
    | voice w =>
      rw [o] at was
      refine ⟨was.1, ?_⟩
      rw [State.voice_setVoice]
      split
      · next same => subst same; exact le_trans (Nat.add_le_add_right fifo _) was.2
      · exact was.2
  · have was := mount m w
    rw [State.voice_setVoice]
    split
    · next same => subst same; exact idle.mpr was
    · exact was

/-- A voice whose record is replaced, the port freed where it served the voice. -/
theorem becomes_stream {s t : State} {v : Fin 6} {x : Voice}
    (becomes : s.VoiceBecomes v x (s.sound.flash.any (·.owner = .voice v)) t)
    (idle : x.state = .idle ↔ x.clip = none) (clip : x.clip.isSome = (x.clip.bind s.sound.clipOf).isSome)
    (fade : x.fade.isSome ↔ x.state = .fadingOut) (fifo : x.fifo.length ≤ 512)
    (refill : x.refillInFlight = false) (mounting : s.sound.mount.isSome → x.state = .idle)
    (h : s.StreamSound) : t.StreamSound := by
  have ⟨_, port, mount, clips⟩ := h
  have voice (w : Fin 6) : t.voice w = if v = w then x else s.voice w := by
    rw [State.voice, becomes]; exact Vector_get_set _ _ _ _
  have flash : t.sound.flash = if s.sound.flash.any (·.owner = .voice v) = true then none
      else s.sound.flash := by rw [becomes]
  have clips' : t.sound.clips = s.sound.clips := by rw [becomes]
  have mount' : t.sound.mount = s.sound.mount := by rw [becomes]
  have clipOf : t.sound.clipOf = s.sound.clipOf := by funext k; rw [SoundUnit.clipOf, clips']; rfl
  refine streamSound_of (fun w => ?_) (fun r hr => ?_) (fun m w => ?_) (by rwa [clips'])
  · rw [voice]
    split
    · next same =>
      subst same
      refine ⟨idle, by rw [clipOf]; exact clip, fade, fifo, ?_, by simp [refill]⟩
      rw [refill, flash]
      split
      · rfl
      · next free => simpa using free
    · next other =>
      have old := h.voice w
      refine ⟨old.idle, by rw [clipOf]; exact old.clip, old.fade, old.fifo, ?_, old.busy⟩
      rw [old.refill, flash]
      split
      · next freed =>
        cases held : s.sound.flash with
        | none => rfl
        | some r => simp_all
      · rfl
  · rw [flash] at hr
    split at hr
    · cases hr
    · next kept =>
      have was := port r hr
      cases o : r.owner with
      | mount => rw [o] at was; simpa [mount'] using was
      | voice w =>
        rw [o] at was
        refine ⟨was.1, ?_⟩
        rw [voice, if_neg]
        · exact was.2
        · rintro rfl; simp [hr, o] at kept
  · rw [mount'] at m
    rw [voice]
    split
    · exact mounting m
    · exact mount m w

/-! ## Ends and starts of voices -/

theorem abandonRefill_sound (s : State) (v : Fin 6) : (s.abandonRefill v).sound = { s.sound with
    flash := if s.sound.flash.any (·.owner = .voice v) then none else s.sound.flash } := by
  unfold State.abandonRefill
  cases held : s.sound.flash with
  | none => simp [held]; rw [← held]
  | some r => by_cases o : r.owner = .voice v <;> simp [held, o]; rw [← held]

/-- A voice's record replaced, with its refill abandoned. -/
theorem setVoice_abandonRefill_becomes (s : State) (v : Fin 6) (x : Voice) :
    s.VoiceBecomes v x (s.sound.flash.any (·.owner = .voice v)) ((s.setVoice v x).abandonRefill v) := by
  rw [State.VoiceBecomes, abandonRefill_sound]
  rfl

theorem endVoice_becomes (s : State) (v : Fin 6) (why : EndReason) :
    s.VoiceBecomes v ((s.voice v).ended why) (s.sound.flash.any (·.owner = .voice v))
      (s.endVoice v why) := setVoice_abandonRefill_becomes s v _

section
variable {e : List Part} (s : State)

theorem setVoice_keeps {v : Fin 6} {x : Voice} (clip : x.clip = (s.voice v).clip)
    (idle : x.state = .idle ↔ (s.voice v).state = .idle)
    (fade : ((s.voice v).fade.isSome ↔ (s.voice v).state = .fadingOut) →
      (x.fade.isSome ↔ x.state = .fadingOut))
    (fifo : x.fifo.length ≤ (s.voice v).fifo.length)
    (refill : x.refillInFlight = (s.voice v).refillInFlight) : Keeps e s (s.setVoice v x) :=
  onSound_keeps s (setVoice_stream clip idle fade fifo refill)

/-- What touches the Sound Unit alone. -/
theorem keeps_of_sound {t : State} (h : SameBut [.sound] s t) (stream : s.StreamSound → t.StreamSound) :
    Keeps e s t := by
  refine .outside h fun x touched => ?_
  cases x <;> simp [Part.blocks] at touched
  exact .inr stream

theorem endVoice_keeps (v : Fin 6) (why : EndReason) : Keeps e s (s.endVoice v why) :=
  (keeps_of_sound s (SameBut_seq (setVoice_outside s v _) (abandonRefill_outside _ v))
    (becomes_stream (setVoice_abandonRefill_becomes s v _) (by simp [Voice.ended]) rfl (by simp [Voice.ended]) (by simp [Voice.ended]) rfl
      fun _ => rfl)).trans (latch_keeps _ _)

theorem endVoice_voice (v : Fin 6) (why : EndReason) :
    (s.endVoice v why).voice v = (s.voice v).ended why := by
  rw [State.voice, endVoice_becomes s v why]
  exact (Vector_get_set _ _ _ _).trans (if_pos rfl)

/-- The port does not serve a voice that has ended. -/
theorem endVoice_flash_free (v : Fin 6) (why : EndReason) :
    (s.endVoice v why).sound.flash.any (·.owner = .voice v) = false := by
  rw [endVoice_becomes s v why]
  split
  · rfl
  · next free => simpa using free

/-- A play of a clip of the table, outside a mount. -/
theorem startVoice_keeps {v : Fin 6} {a : PlaySpec} (mount : s.sound.mount.isSome = false)
    (clip : (s.sound.clipOf a.clip).isSome) : Keeps e s (s.startVoice v a) := by
  have started {t : State} (free : t.StreamSound → t.sound.flash.any (·.owner = .voice v) = false)
      (mount : t.sound.mount.isSome = false) (clip : (t.sound.clipOf a.clip).isSome) :
      Keeps e t (t.setVoice v ((t.voice v).started t.sound.heldSeen a)) := by
    refine onSound_keeps t fun h => ?_
    refine becomes_stream (v := v) (x := (t.voice v).started t.sound.heldSeen a) ?_ ?_ ?_ ?_ ?_ rfl ?_ h
    · rw [free h]; rfl
    · simp [Voice.started]; split <;> simp
    · simpa [Voice.started] using clip.symm
    · simp [Voice.started]; split <;> simp
    · simp [Voice.started]
    · simp [mount]
  unfold State.startVoice
  split
  · next idle => exact started (fun h => h.idle_free idle) mount clip
  · refine (endVoice_keeps s v .cut).trans (started (fun _ => endVoice_flash_free s v .cut) ?_ ?_)
    · rw [endVoice_becomes s v .cut]; exact mount
    · rw [endVoice_becomes s v .cut]; exact clip

theorem fading_keeps {v : Fin 6} (step : Nat) (why : FadeReason)
    (active : (s.voice v).state ≠ .idle) : Keeps e s (s.setVoice v ((s.voice v).fading step why)) :=
  setVoice_keeps s rfl (by simp [Voice.fading, active]) (by simp [Voice.fading]) le_rfl rfl

/-- A voice whose gain, target or step changes. -/
theorem regained_keeps {v : Fin 6} (gain target step : Nat) : Keeps e s (s.setVoice v
    { s.voice v with gain := gain, target := target, step := step }) :=
  setVoice_keeps s rfl Iff.rfl id le_rfl rfl

theorem showStopVoice_keeps (v : Fin 6) : Keeps e s (s.showStopVoice v) := by
  unfold State.showStopVoice
  dsimp only
  split
  · next playing => exact fading_keeps s _ _ (by simp [playing])
  · exact regained_keeps s _ _ _
  · exact endVoice_keeps s v _
  · exact .refl s

/-- A change of the unit beside voices, clips, mount and port. -/
theorem onSound_aside_keeps {f : SoundUnit → SoundUnit} (voice : (f s.sound).voice = s.sound.voice)
    (clips : (f s.sound).clips = s.sound.clips) (mount : (f s.sound).mount = s.sound.mount)
    (flash : (f s.sound).flash = s.sound.flash) : Keeps e s (s.onSound f) := by
  refine onSound_keeps s ?_
  have clipOf : (f s.sound).clipOf = s.sound.clipOf := by funext k; rw [SoundUnit.clipOf, clips]; rfl
  simp only [State.StreamSound, State.voice, State.clipOn, State.onSound_sound, voice, clips, mount,
    flash, clipOf]
  exact id

theorem announce_keeps (cause : ShowCause) : Keeps e s (s.announce cause) := by
  have recorded (t : State) (x : Option LastAnnouncement) :
      Keeps e t (t.onSound fun u => { u with lastAnnouncement := x }) :=
    onSound_aside_keeps t rfl rfl rfl rfl
  refine .ite (fun _ => recorded s _) fun _ => .ite (fun _ => recorded s _) fun mount =>
    .ite (fun _ => recorded s _) fun clip => (startVoice_keeps s ?_ ?_).trans (recorded _ _)
  · simpa using mount
  · simpa [Option.isSome_iff_ne_none] using clip

theorem cueSuppress_keeps : Keeps e s s.cueSuppress :=
  onCues_keeps s fun h => by split <;> exact h

theorem showStop_keeps (cause : ShowCause) : Keeps e s (s.showStop cause) :=
  (((cueSuppress_keeps s).trans (.foldl showStopVoice_keeps _ _)).trans (announce_keeps _ cause)).trans
    (effectShowStop_keeps _)

theorem soundReset_keeps : Keeps e s s.soundReset := by
  refine (Keeps.foldl (fun t v => ?_) allVoices s).trans (onSound_aside_keeps _ rfl rfl rfl rfl)
  refine keeps_of_sound t (SameBut_seq (setVoice_outside t v _) (abandonRefill_outside _ v)) fun h => ?_
  have old := h.voice v
  have becomes := setVoice_abandonRefill_becomes t v (t.voice v).silenced
  unfold Voice.silenced at becomes ⊢
  split at becomes <;> rename_i idle
  · rw [if_pos idle]
    refine becomes_stream becomes old.idle old.clip old.fade old.fifo ?_ (fun _ => idle) h
    rw [Bool.eq_false_iff]
    exact fun b => old.busy b idle
  · rw [if_neg idle]
    exact becomes_stream becomes (by simp [Voice.powerOn]) rfl (by simp [Voice.powerOn])
      (by simp [Voice.powerOn]) rfl (fun _ => rfl) h

/-! ## The sample period and the tick -/

theorem voiceSample_keeps (v : Fin 6) : Keeps e s (s.voiceSample v) := by
  have starved : Keeps e s (s.setVoice v { s.voice v with starved := true }) :=
    setVoice_keeps s rfl Iff.rfl id le_rfl rfl
  exact .ite (fun _ => setVoice_keeps s rfl Iff.rfl id (by simp) rfl) fun _ =>
    .ite (fun _ => .ite (fun _ => starved) fun _ => starved.trans (latch_keeps _ _)) fun _ => .refl s

theorem clipPassEnd_keeps (v : Fin 6) : Keeps e s (s.clipPassEnd v) := by
  unfold State.clipPassEnd
  dsimp only
  split
  · exact .ite (fun _ => .ite (fun _ => setVoice_keeps s rfl Iff.rfl id le_rfl rfl)
      fun _ => endVoice_keeps s v _) fun _ => .refl s
  · exact .refl s

theorem settleSamples_keeps : Keeps e s s.settleSamples := .foldl clipPassEnd_keeps allVoices s

theorem samplePeriod_keeps (ends : Ends) : Keeps e s (s.samplePeriod ends) := by
  have period := (((settleSamples_keeps (e := e) s).trans
    (onSound_aside_keeps _ (f := fun u => { u with sent := u.formed }) rfl rfl rfl rfl)).trans
    (.foldl (f := State.formZone s.settleSamples)
      (fun t z => onSound_aside_keeps t rfl rfl rfl rfl) allZones _)).trans
    (.foldl voiceSample_keeps allVoices _)
  exact .ite (fun _ => period.trans (settleSamples_keeps _)) fun _ => period

theorem fadeEnd_keeps (v : Fin 6) : Keeps e s (s.fadeEnd v) :=
  .ite (fun _ => endVoice_keeps s v _) fun _ => .refl s

theorem ticked_keeps (held : Bool) (v : Fin 6) :
    Keeps e s (s.setVoice v ((s.voice v).ticked held)) := by
  refine setVoice_keeps s ?_ ?_ (fun h => ?_) ?_ ?_ <;> unfold Voice.ticked <;> dsimp only <;>
    split_ifs <;> simp_all

theorem soundTick_keeps : Keeps e s s.soundTick :=
  ((onSound_aside_keeps s rfl rfl rfl rfl).trans
    (.foldl (f := fun t v => t.setVoice v ((t.voice v).ticked (decide (s.motion.phase = .held))))
      (fun t v => ticked_keeps t _ v) allVoices _)).trans
    (onSound_aside_keeps _ rfl rfl rfl rfl)

/-! ## The four sound commands -/

theorem playJudged_keeps (a : PlayBytes) {t : State} (h : s.playJudged a = .ok t) : Keeps e s t := by
  unfold State.playJudged at h
  split at h
  · split at h <;> [cases h; skip]
    split at h <;> [cases h; skip]
    next mount =>
    split at h <;> [cases h; skip]
    next clip =>
    split at h <;> cases h
    exact startVoice_keeps s (by simpa using mount)
      (by simpa [playSpecOf, Option.isSome_iff_ne_none] using clip)
  · cases h

theorem stopJudged_keeps (voice step : Byte) {t : State} (h : s.stopJudged voice step = .ok t) :
    Keeps e s t := by
  unfold State.stopJudged at h
  split at h
  · cases h
  next v _ =>
  dsimp only at h
  split at h <;> cases h
  · exact .refl s
  · exact endVoice_keeps s v _
  · next playing => exact .ite (fun _ => endVoice_keeps s v _) fun _ => fading_keeps s _ _ (by simp [playing])
  · exact .ite (fun _ => endVoice_keeps s v _) fun _ => regained_keeps s _ _ _

theorem gainJudged_keeps (voice target step : Byte) {t : State}
    (h : s.gainJudged voice target step = .ok t) : Keeps e s t := by
  unfold State.gainJudged at h
  split at h
  · cases h
  dsimp only at h
  split at h <;> cases h
  all_goals split <;> exact regained_keeps s _ _ _

theorem zoneJudged_keeps (zone target step : Byte) {t : State}
    (h : s.zoneJudged zone target step = .ok t) : Keeps e s t := by
  unfold State.zoneJudged at h
  split at h <;> cases h
  exact onSound_aside_keeps s rfl rfl rfl rfl

end

/-! ## Mounts -/

/-- A unit whose voices are all idle, and whose port serves at most a mount. -/
theorem quiet_stream {s t : State} (voice : t.sound.voice = s.sound.voice)
    (port : ∀ r, t.sound.flash = some r → r.owner = .mount ∧ t.sound.mount.isSome)
    (quiet : ∀ v, (s.voice v).state = .idle) (clips : (t.sound.clips.map (·.id)).Pairwise (· < ·))
    (h : s.StreamSound) : t.StreamSound := by
  have same (v : Fin 6) : t.voice v = s.voice v := by rw [State.voice, voice]; rfl
  refine streamSound_of (fun v => ?_) (fun r hr => ?_) (fun _ v => by rw [same]; exact quiet v) clips
  · have old := h.voice v
    have silent := old.idle.mp (quiet v)
    have still : (s.voice v).refillInFlight = false := by
      rw [Bool.eq_false_iff]; exact fun busy => old.busy busy (quiet v)
    rw [same]
    refine ⟨old.idle, by rw [silent]; rfl, old.fade, old.fifo, ?_, old.busy⟩
    rw [still]
    cases held : t.sound.flash with
    | none => rfl
    | some r => simp [(port r held).1]
  · obtain ⟨owner, mount⟩ := port r hr
    rw [owner]
    exact mount

/-- The port of a unit whose voices are all idle serves no voice. -/
theorem State.StreamSound.quiet_port {s : State} (h : s.StreamSound)
    (quiet : ∀ v, (s.voice v).state = .idle) {r : FlashRead} (hr : s.sound.flash = some r) :
    r.owner = .mount := by
  cases o : r.owner with
  | mount => rfl
  | voice v => simpa [hr, o] using h.idle_free (quiet v)

theorem judgeEntry_sorted (m : MountProgress) (table : List Clip) (b : Vector Byte 12)
    (h : (table.map (·.id)).Pairwise (· < ·)) :
    ((m.judgeEntry table b).1.map (·.id)).Pairwise (· < ·) := by
  unfold MountProgress.judgeEntry
  split
  · split
    · exact h
    · next fresh => exact insertClip_sorted h (by simpa using fresh)
  · exact h

section
variable {e : List Part} (s : State)

theorem mountJudged_keeps {t : State} (h : s.mountJudged = .ok t) : Keeps e s t := by
  unfold State.mountJudged at h
  split at h <;> cases h
  next free =>
  simp only [not_or, Bool.not_eq_true, Option.isSome_eq_false_iff, Option.isNone_iff_eq_none,
    List.any_eq_false, decide_eq_true_eq, not_not] at free
  obtain ⟨-, quiet⟩ := free
  have idle (v : Fin 6) : (s.voice v).state = .idle := quiet v (by revert v; decide)
  exact onSound_keeps s fun sound => quiet_stream (s := s) rfl
    (fun r hr => ⟨sound.quiet_port idle hr, rfl⟩) idle List.Pairwise.nil sound

theorem mountEnds_keeps (o : MountOutcome) (valid invalid : Nat) (flash : s.sound.flash = none)
    (mounting : s.sound.mount.isSome) : Keeps e s (s.mountEnds o valid invalid) := by
  refine .trans (onSound_keeps s fun h => ?_) (latch_keeps _ _)
  have ⟨_, _, _, clips⟩ := h
  exact quiet_stream (s := s) rfl (fun r hr => by simp [flash] at hr) (h.mounting mounting) clips h

/-- A mount that goes on with a table of its own, the port being free. -/
theorem mountGoesOn_keeps (table : List Clip) (m : Option MountProgress) (request : Bool)
    (flash : s.sound.flash = none) (mounting : s.sound.mount.isSome)
    (sorted : (s.sound.clips.map (·.id)).Pairwise (· < ·) → (table.map (·.id)).Pairwise (· < ·)) :
    Keeps e s (s.onSound fun u => { u with clips := table, mount := m, mountRequest := request }) := by
  refine onSound_keeps s fun h => ?_
  have ⟨_, _, _, clips⟩ := h
  exact quiet_stream (s := s) rfl (fun r hr => by simp [flash] at hr) (h.mounting mounting) (sorted clips) h

theorem headerRead_keeps (m : MountProgress) (b : Vector Byte 12) (flash : s.sound.flash = none)
    (mounting : s.sound.mount.isSome) : Keeps e s (s.headerRead m b) :=
  .ite (fun _ => mountGoesOn_keeps s s.sound.clips _ true flash mounting id)
    fun _ => mountEnds_keeps s _ _ _ flash mounting

theorem entryRead_keeps (m : MountProgress) (count : Nat) (b : Vector Byte 12)
    (flash : s.sound.flash = none) (mounting : s.sound.mount.isSome) :
    Keeps e s (s.entryRead m count b) := by
  have sorted := judgeEntry_sorted m s.sound.clips b
  unfold State.entryRead
  dsimp only
  refine .ite (fun _ => mountGoesOn_keeps s _ _ true flash mounting sorted) fun _ => ?_
  exact (mountGoesOn_keeps s _ s.sound.mount s.sound.mountRequest flash mounting sorted).trans
    (mountEnds_keeps _ _ _ _ flash mounting)

theorem mountRead_keeps (b : Vector Byte 12) : Keeps e s (s.mountRead b) := by
  unfold State.mountRead
  split
  · next r m flash mount =>
    refine .ite (fun owner => ?_) fun _ => .refl s
    have mounting : s.sound.mount.isSome := by simp [mount]
    have freed : Keeps e s (s.onSound fun u => { u with flash := none }) := by
      refine onSound_keeps s fun h => ?_
      have ⟨_, _, _, clips⟩ := h
      exact quiet_stream (s := s) rfl (fun r hr => by simp at hr) (h.mounting mounting) clips h
    dsimp only
    split
    · exact freed.trans (headerRead_keeps _ _ _ rfl mounting)
    · exact freed.trans (entryRead_keeps _ _ _ _ rfl mounting)
  · exact .refl s

/-! ## Refills -/

/-- A voice served by the port: its FIFO and its mark of a refill change, and the port with them. -/
theorem served_stream {t : State} {v : Fin 6} {x : Voice} {flash : Option FlashRead}
    (becomes : t.sound = { s.sound with
      voice := s.sound.voice.set v x v.isLt, flash := flash, lastServed := t.sound.lastServed })
    (state : x.state = (s.voice v).state) (clip : x.clip = (s.voice v).clip)
    (fade : x.fade = (s.voice v).fade) (fifo : x.fifo.length ≤ 512)
    (refill : x.refillInFlight = flash.any (·.owner = .voice v))
    (busy : x.refillInFlight = true → x.state ≠ .idle)
    (others : ∀ w, w ≠ v →
      flash.any (·.owner = .voice w) = s.sound.flash.any (·.owner = .voice w))
    (port : ∀ r, flash = some r → r.owner = .voice v ∧ r.arrived ≤ r.samples
      ∧ x.fifo.length + (r.samples - r.arrived) ≤ 512)
    (h : s.StreamSound) : t.StreamSound := by
  have ⟨_, _, mount, clips⟩ := h
  have voice (w : Fin 6) : t.voice w = if v = w then x else s.voice w := by
    rw [State.voice, becomes]; exact Vector_get_set _ _ _ _
  have flash' : t.sound.flash = flash := by rw [becomes]
  have clips' : t.sound.clips = s.sound.clips := by rw [becomes]
  have mount' : t.sound.mount = s.sound.mount := by rw [becomes]
  have clipOf : t.sound.clipOf = s.sound.clipOf := by funext k; rw [SoundUnit.clipOf, clips']; rfl
  refine streamSound_of (fun w => ?_) (fun r hr => ?_) (fun m w => ?_) (by rwa [clips'])
  · have old := h.voice w
    rw [voice]
    split
    · next same =>
      subst same
      exact ⟨by rw [state, clip]; exact old.idle, by rw [clip, clipOf]; exact old.clip,
        by rw [fade, state]; exact old.fade, fifo, by rw [flash']; exact refill, busy⟩
    · next other =>
      exact ⟨old.idle, by rw [clipOf]; exact old.clip, old.fade, old.fifo,
        by rw [flash', others w (Ne.symm other)]; exact old.refill, old.busy⟩
  · obtain ⟨owner, arrived, room⟩ := port r (flash' ▸ hr)
    rw [owner]
    exact ⟨arrived, by rw [voice, if_pos rfl]; exact room⟩
  · rw [mount'] at m
    rw [voice]
    split
    · next same => subst same; rw [state]; exact mount m v
    · exact mount m w

theorem grantRefill_keeps (v : Fin 6) (free : s.sound.flash = none)
    (pending : s.refillPending v = true) : Keeps e s (s.grantRefill v) := by
  unfold State.grantRefill
  split
  · exact .refl s
  next c _ =>
  simp only [State.refillPending, Bool.and_eq_true, bne_iff_ne, Config.refillSamples] at pending
  obtain ⟨⟨⟨⟨active, low⟩, -⟩, -⟩, -⟩ := pending
  have low := of_decide_eq_true low
  refine keeps_of_sound s (SameBut_seq (setVoice_outside s v _) (onSound_outside _ _))
    (served_stream s (flash := some (refillRead v c (s.voice v))) rfl rfl rfl rfl (by simp; omega)
      (by simp [refillRead]) (fun _ => active) (fun w other => ?_) fun r hr => ?_)
  · simp [refillRead, free, Ne.symm other]
  · cases hr
    simp only [refillRead, Config.refillSamples, true_and]
    omega

theorem nextRefill_pending {v : Fin 6} (h : s.nextRefill = some v) : s.refillPending v = true := by
  unfold State.nextRefill at h
  split at h
  · next p => cases h; exact p
  · exact List.find?_some h

theorem grantFlash_keeps : Keeps e s s.grantFlash := by
  unfold State.grantFlash
  split
  · exact .refl s
  · next m flash _ mount =>
    refine onSound_keeps s fun h => ?_
    have ⟨_, _, _, clips⟩ := h
    have mounting : s.sound.mount.isSome := by simp [mount]
    refine quiet_stream (s := s) rfl (fun r hr => ⟨?_, mounting⟩) (h.mounting mounting) clips h
    simp only [State.onSound_sound, Option.some.injEq] at hr
    subst hr
    unfold MountProgress.read
    split <;> rfl
  · next flash _ =>
    split
    · next v next => exact grantRefill_keeps s v flash (nextRefill_pending s next)
    · exact .refl s

/-- A port that serves one voice serves no other. -/
theorem owner_other {r : FlashRead} {v w : Fin 6} (o : r.owner = .voice v) (other : w ≠ v) :
    (some r).any (·.owner = .voice w) = false := by
  simp [o, Ne.symm other]

theorem sampleArrives_keeps (first second : Byte) : Keeps e s (s.sampleArrives first second) := by
  unfold State.sampleArrives
  split
  · next r flash =>
    split
    · next v owner =>
      split
      · next c _ =>
        refine .ite (fun coming => ?_) fun _ => .refl s
        refine keeps_of_sound s (SameBut_seq (setVoice_outside s v _) (onSound_outside _ _)) fun h => ?_
        have ⟨_, port, _, _⟩ := h
        have room := port r flash
        rw [owner] at room
        obtain ⟨arrived, room⟩ := room
        have old := h.voice v
        refine served_stream s (v := v) (flash := some { r with arrived := r.arrived + 1 }) rfl rfl rfl rfl ?_ ?_ old.busy
          (fun w other => ?_) (fun x hx => ?_) h
        · simp only [Voice.fed, List.length_append, List.length_singleton]; omega
        · exact old.refill.trans (by rw [flash]; simp)
        · rw [flash, owner_other owner other, owner_other (r := { r with arrived := r.arrived + 1 }) owner other]
        · cases hx
          refine ⟨owner, coming, ?_⟩
          simp only [Voice.fed, List.length_append, List.length_singleton]; omega
      · exact .refl s
    · exact .refl s
  · exact .refl s

theorem refilled_same (c : Clip) (n : Nat) (x : Voice) :
    (x.refilled c n).state = x.state ∧ (x.refilled c n).clip = x.clip ∧ (x.refilled c n).fade = x.fade
      ∧ (x.refilled c n).fifo = x.fifo ∧ (x.refilled c n).refillInFlight = false := by
  unfold Voice.refilled
  dsimp only
  split_ifs <;> exact ⟨rfl, rfl, rfl, rfl, rfl⟩

theorem refillEnds_keeps : Keeps e s s.refillEnds := by
  unfold State.refillEnds
  split
  · next r flash =>
    split
    · next v owner =>
      split
      · next c _ =>
        refine .ite (fun all => ?_) fun _ => .refl s
        refine keeps_of_sound s (SameBut_seq (setVoice_outside s v _) (onSound_outside _ _)) fun h => ?_
        obtain ⟨state, clip, fade, fifo, refill⟩ := refilled_same c r.samples (s.voice v)
        refine served_stream s (v := v) (flash := none) rfl state clip fade ?_ refill ?_
          (fun w other => ?_) (fun x hx => nomatch hx) h
        · rw [fifo]; exact (h.voice v).fifo
        · simp [refill]
        · rw [flash, owner_other owner other]; rfl
      · exact .refl s
    · exact .refl s
  · exact .refl s

end

end Sys2Proof.Machine
end

section
/-! Drive enable, the turntable and the stops: what they make of the blocks, and what they keep. -/

namespace Sys2Proof.Machine

-- One theorem at a time: each waits for the kernel, and many waiting at once are many threads.
set_option Elab.async false

/-! ## Pulses and drive enable -/

/-- What ends pulses: only the Drive Pulse Unit and the counter of free values move, drive enable stays
and the brake is not released. -/
structure State.Pulsed (s t : State) : Prop where
  frame : t = { s with drive := t.drive, freeCount := t.freeCount }
  enable : t.drive.enable = s.drive.enable
  brake : t.drive.brakeRelease = true → s.drive.brakeRelease = true

theorem State.Pulsed.refl (s : State) : s.Pulsed s := ⟨rfl, rfl, id⟩

theorem State.Pulsed.trans {s t u : State} (h : s.Pulsed t) (k : t.Pulsed u) : s.Pulsed u :=
  ⟨by rw [k.frame, h.frame], k.enable.trans h.enable, h.brake ∘ k.brake⟩

section
variable {s t : State} (h : s.Pulsed t)
include h

theorem State.Pulsed.ports : t.ports = s.ports := by rw [h.frame]
theorem State.Pulsed.settings : t.settings = s.settings := by rw [h.frame]
theorem State.Pulsed.route : t.route = s.route := by rw [h.frame]
theorem State.Pulsed.motion : t.motion = s.motion := by rw [h.frame]
theorem State.Pulsed.tt : t.tt = s.tt := by rw [h.frame]
theorem State.Pulsed.seats : t.seats = s.seats := by rw [h.frame]
theorem State.Pulsed.permit : t.permit = s.permit := by rw [h.frame]
theorem State.Pulsed.cues : t.cues = s.cues := by rw [h.frame]
theorem State.Pulsed.effects : t.effects = s.effects := by rw [h.frame]
theorem State.Pulsed.sound : t.sound = s.sound := by rw [h.frame]

end

theorem State.Pulsed.foldl {α : Type} {f : State → α → State} (h : ∀ (s : State) x, s.Pulsed (f s x))
    (l : List α) (s : State) : s.Pulsed (l.foldl f s) := by
  induction l generalizing s with
  | nil => exact .refl s
  | cons x l ih => exact (h s x).trans (ih _)

theorem establish_pulsed (s : State) (i : Axis) : s.Pulsed (s.establish i) := by
  unfold State.establish
  dsimp only
  split
  · exact .refl s
  · exact ⟨rfl, rfl, id⟩

theorem onDrive_pulsed (s : State) {f : DriveUnit → DriveUnit}
    (enable : (f s.drive).enable = s.drive.enable)
    (brake : (f s.drive).brakeRelease = true → s.drive.brakeRelease = true) :
    s.Pulsed (s.onDrive f) := ⟨rfl, enable, brake⟩

theorem endPlan_pulsed (s : State) (i : Axis) : s.Pulsed (s.endPlan i) :=
  (establish_pulsed s i).trans (onDrive_pulsed _ rfl id)

@[simp] theorem cutNow_enable (d : DriveUnit) : d.cutNow.enable = d.enable := rfl
@[simp] theorem cutNow_brakeRelease (d : DriveUnit) : d.cutNow.brakeRelease = false := rfl

theorem cut_pulsed (s : State) : s.Pulsed s.cut :=
  (State.Pulsed.foldl establish_pulsed allAxes s).trans
    (onDrive_pulsed _ (cutNow_enable _) fun released => by simp at released)

@[simp] theorem cut_brakeRelease (s : State) : s.cut.drive.brakeRelease = false := rfl

/-- What re-derives drive enable: the Drive Pulse Unit, the Seat Monitor's knowledge of it and the
counter of free values move. -/
structure State.Rederived (s t : State) : Prop where
  frame : t = { s with drive := t.drive, seats := { s.seats with driveTold := t.seats.driveTold },
                       freeCount := t.freeCount }
  brake : t.drive.brakeRelease = true → s.drive.brakeRelease = true
  enable : t.drive.enable = s.driveWanted
  told : s.seats.driveTold = s.drive.enable → t.seats.driveTold = t.drive.enable

theorem rederive_rederived (s : State) : s.Rederived s.rederive := by
  unfold State.rederive
  split
  · next same => exact ⟨rfl, id, same.symm, id⟩
  next differs =>
  split
  · next wanted => exact ⟨rfl, id, wanted.symm, fun _ => rfl⟩
  next unwanted =>
  have fall := State.Pulsed.foldl establish_pulsed allAxes s
  unfold State.driveFall
  dsimp only
  generalize List.foldl State.establish s allAxes = t at fall
  refine ⟨?_, ?_, by simpa [State.setEnable] using (Bool.eq_false_iff.mpr unwanted).symm, fun _ => rfl⟩
  · conv_lhs => rw [fall.frame]
    split <;> rfl
  · split
    · intro released; simp [State.setEnable] at released
    · exact fall.brake

section
variable (s : State)

@[simp] theorem rederive_ports : s.rederive.ports = s.ports := by rw [(rederive_rederived s).frame]
@[simp] theorem rederive_settings : s.rederive.settings = s.settings := by
  rw [(rederive_rederived s).frame]
@[simp] theorem rederive_route : s.rederive.route = s.route := by rw [(rederive_rederived s).frame]
@[simp] theorem rederive_motion : s.rederive.motion = s.motion := by rw [(rederive_rederived s).frame]
@[simp] theorem rederive_tt : s.rederive.tt = s.tt := by rw [(rederive_rederived s).frame]
@[simp] theorem rederive_permit : s.rederive.permit = s.permit := by rw [(rederive_rederived s).frame]
@[simp] theorem rederive_cues : s.rederive.cues = s.cues := by rw [(rederive_rederived s).frame]
@[simp] theorem rederive_effects : s.rederive.effects = s.effects := by
  rw [(rederive_rederived s).frame]
@[simp] theorem rederive_sound : s.rederive.sound = s.sound := by rw [(rederive_rederived s).frame]
@[simp] theorem rederive_pins : s.rederive.pins = s.pins := by rw [(rederive_rederived s).frame]
@[simp] theorem rederive_inReset : s.rederive.inReset = s.inReset := by
  rw [(rederive_rederived s).frame]
@[simp] theorem rederive_pending : s.rederive.pending = s.pending := by
  rw [(rederive_rederived s).frame]
@[simp] theorem rederive_seat (i : Fin 8) : s.rederive.seat i = s.seat i := by
  rw [(rederive_rederived s).frame]; rfl
@[simp] theorem rederive_enable : s.rederive.drive.enable = s.driveWanted :=
  (rederive_rederived s).enable

end

/-- Drive enable is safe but for being as derived. -/
structure State.Derivable (t : State) : Prop where
  told : t.seats.driveTold = t.drive.enable
  brake : t.drive.brakeRelease = true → t.motion.phase.drives = true
  off : t.motion.phase = .faulted → t.motion.servoLatch = false

theorem State.DriveSafe.derivable {s : State} (h : s.DriveSafe) : s.Derivable :=
  ⟨h.2.1, h.2.2.1, h.2.2.2⟩

theorem driveSafe_rederive {t : State} (h : t.Derivable) : t.rederive.DriveSafe := by
  refine ⟨?_, (rederive_rederived t).told h.told, fun released => ?_, ?_⟩
  · rw [rederive_enable, State.driveWanted, State.driveWanted, rederive_motion, rederive_tt]
  · rw [rederive_motion]; exact h.brake ((rederive_rederived t).brake released)
  · rw [rederive_motion]; exact h.off

section
variable {e : List Part} {s t : State}

theorem pulsed_keeps (h : s.Pulsed t) : Keeps e s t := by
  obtain ⟨frame, enable, brake⟩ := h
  have moved : Keeps e s ((s.onDrive fun _ => t.drive).spendFree 0) :=
    (onDrive_keeps s enable brake).trans (spendFree_keeps _ 0)
  rw [frame]
  intro x
  exact moved x

theorem rederive_keeps (s : State) : Keeps e s s.rederive := by
  refine .outside (rederive_outside s) fun x touched => .inr ?_
  cases x <;> simp [Part.blocks] at touched
  · exact fun safe => driveSafe_rederive safe.derivable
  · simp [Part.kept, State.PermitSound, State.fitted]
  · simp [Part.kept, State.SettingsInForce, State.fitted]
  · simp +contextual [Part.kept]
  · exact ⟨rederive_inReset s, rederive_pending s⟩

/-- A change that leaves drive enable to be re-derived, and its re-derivation. -/
theorem rederived_keeps (h : Keeps (.drive :: e) s t) (d : s.DriveSafe → t.Derivable) :
    Keeps e s t.rederive :=
  (h.trans (rederive_keeps t)).patch fun safe => driveSafe_rederive (d safe)

theorem onDrive_open_keeps (s : State) (f : DriveUnit → DriveUnit) :
    Keeps (.drive :: e) s (s.onDrive f) := by
  refine .outside (onDrive_outside s f) fun x touched => ?_
  cases x <;> simp [Part.blocks] at touched
  exact .inl List.mem_cons_self

end

/-! ## What the phases say of their blocks -/

/-- What the motion phase says of the rest of its block (`RunsShaped`). -/
def MotionShaped (m : MotionGenerator) : Prop :=
  (m.phase.moves = true → m.current.isSome)
    ∧ (m.current.isSome → m.phase.moves = true ∨ m.phase = .held)
    ∧ (m.phaseTimer.isSome = m.phase.timed)
    ∧ (m.retreat.isSome → m.phase = .decel ∨ m.phase = .holding ∨ m.phase = .stopping)
    ∧ (m.phase = .holding ∨ m.phase = .stopping → m.retreat.isSome)
    ∧ (m.pendingStop.isSome ↔ m.phase = .stopping)
    ∧ (m.fault.isSome ↔ m.phase = .faulted)
    ∧ (m.sceneTimer.isSome = m.holds.scene)
    ∧ (m.phase = .holding ∨ m.phase = .held → m.holds.isEmpty = false)
    ∧ (m.phase = .accel ∨ m.phase = .cruise ∨ m.phase = .decel → m.holds.isEmpty = true)
    ∧ (∀ c, m.current = some c → c.kEff = none ∨ c.kEff = m.lastEff)

/-- What the turntable phase says of the rest of its block (`RunsShaped`). -/
def TurnShaped (t : Turntable) : Prop :=
  (t.run.isSome ↔ t.phase ≠ .idle) ∧ (t.timer.isSome ↔ t.phase = .pre)
    ∧ ∀ r, t.run = some r → (t.phase = .homing → r.kind = .home)
      ∧ (t.phase = .turning ∨ t.phase = .stopping → r.kind ≠ .home)
      ∧ (r.retreat.isSome ↔ t.phase = .stopping) ∧ (r.kind = .home → t.homed = false)

theorem runsShaped_iff (s : State) : s.RunsShaped ↔ MotionShaped s.motion ∧ TurnShaped s.tt :=
  ⟨fun ⟨leg, rest, timer, retreat, retreats, pending, fault, scene, held, free, run, pre, kind, last⟩ =>
    ⟨⟨leg, rest, timer, retreat, retreats, pending, fault, scene, held, free, last⟩, run, pre, kind⟩,
  fun ⟨⟨leg, rest, timer, retreat, retreats, pending, fault, scene, held, free, last⟩, run, pre, kind⟩ =>
    ⟨leg, rest, timer, retreat, retreats, pending, fault, scene, held, free, run, pre, kind, last⟩⟩

/-- A motion that may come to rest or start: its holds and its SCENE timer agree, no stop is pending
and no fault is recorded. -/
structure Restable (m : MotionGenerator) : Prop where
  scene : m.sceneTimer.isSome = m.holds.scene
  pending : m.pendingStop = none
  fault : m.fault = none

theorem MotionShaped.restable {m : MotionGenerator} (h : MotionShaped m)
    (stopping : m.phase ≠ .stopping) (faulted : m.phase ≠ .faulted) : Restable m := by
  obtain ⟨-, -, -, -, -, pending, fault, scene, -⟩ := h
  exact ⟨scene, by simpa using mt pending.mp stopping, by simpa using mt fault.mp faulted⟩

theorem turnShaped_runEnded (t : Turntable) : TurnShaped t.runEnded := by
  simp [TurnShaped, Turntable.runEnded]

/-! ## Phase entries -/

@[simp] theorem enterPhase_motion (s : State) (ph : Phase) :
    (s.enterPhase ph).motion = { s.motion with phase := ph } := by
  unfold State.enterPhase
  split
  · next same => rw [← same]
  · rfl

section
variable (s : State) (ph : Phase)

@[simp] theorem enterPhase_tt : (s.enterPhase ph).tt = s.tt := (enterPhase_outside s ph).same .turntable
@[simp] theorem enterPhase_drive : (s.enterPhase ph).drive = s.drive :=
  (enterPhase_outside s ph).same .drive
@[simp] theorem enterPhase_seats : (s.enterPhase ph).seats = s.seats :=
  (enterPhase_outside s ph).same .seats
@[simp] theorem enterPhase_permit : (s.enterPhase ph).permit = s.permit :=
  (enterPhase_outside s ph).same .permit
@[simp] theorem enterPhase_settings : (s.enterPhase ph).settings = s.settings :=
  (enterPhase_outside s ph).same .settings
@[simp] theorem enterPhase_route : (s.enterPhase ph).route = s.route :=
  (enterPhase_outside s ph).same .route
@[simp] theorem enterPhase_cues : (s.enterPhase ph).cues = s.cues := (enterPhase_outside s ph).same .cues
@[simp] theorem enterPhase_effects : (s.enterPhase ph).effects = s.effects :=
  (enterPhase_outside s ph).same .effects
@[simp] theorem enterPhase_sound : (s.enterPhase ph).sound = s.sound :=
  (enterPhase_outside s ph).same .sound

end

section
variable {e : List Part} (s : State)

/-- A change of the Motion Generator, then the entry of a phase. -/
theorem entered_keeps {f : MotionGenerator → MotionGenerator} {ph : Phase}
    (shaped : .shaped ∈ e ∨ (s.RunsShaped → MotionShaped { f s.motion with phase := ph }))
    (queue : (f s.motion).queue.length ≤ s.motion.queue.length)
    (drive : .drive ∈ e ∨ (ph.drives = s.motion.phase.drives
      ∧ (f s.motion).servoLatch = s.motion.servoLatch ∧ (ph = .faulted → s.motion.phase = .faulted)))
    (fault : .fault ∈ e ∨ s.motion.phase ≠ .faulted) :
    Keeps e s ((s.onMotion f).enterPhase ph) := by
  have moved : Keeps e s (s.onMotion fun m => { f m with phase := ph }) :=
    onMotion_keeps s (shaped.imp_right fun k sound =>
      (runsShaped_iff _).mpr ⟨k sound, ((runsShaped_iff s).mp sound).2⟩) queue drive
      (fault.imp_right fun free faulted => absurd faulted free)
  unfold State.enterPhase
  split
  · next same =>
    have e' : s.onMotion f = s.onMotion fun m => { f m with phase := ph } := by
      unfold State.onMotion
      rw [← same]
      rfl
    rw [e']
    exact moved
  · exact moved.trans (latchEntry_keeps _ ph)

/-- A phase entry seen alone. -/
theorem enterPhase_keeps {ph : Phase}
    (shaped : .shaped ∈ e ∨ (s.RunsShaped → MotionShaped { s.motion with phase := ph }))
    (drive : .drive ∈ e ∨ (ph.drives = s.motion.phase.drives ∧ (ph = .faulted → s.motion.phase = .faulted)))
    (fault : .fault ∈ e ∨ s.motion.phase ≠ .faulted) : Keeps e s (s.enterPhase ph) :=
  entered_keeps s (f := id) shaped le_rfl (drive.imp_right fun h => ⟨h.1, rfl, h.2⟩) fault

/-! ## POST -/

/-- The end of POST (R39). -/
theorem finishPost_keeps (post : s.motion.phase = .post) : Keeps e s s.finishPost := by
  have moved := (onDrive_keeps (e := .drive :: .shaped :: e) s
    (f := fun d => { d with brakeRelease := false }) rfl (by simp)).trans
    (entered_keeps _ (f := fun m => { m with servoLatch := s.settings.servoHold, phaseTimer := none })
      (ph := .idle) (.inl (by simp)) le_rfl (.inl (by simp)) (.inr (by simp [post])))
  refine Keeps.patch (x := .shaped) (rederived_keeps moved fun safe => ?_) fun sound => ?_
  · exact ⟨by simpa using safe.2.1, by simp, by simp⟩
  · obtain ⟨motion, tt⟩ := (runsShaped_iff s).mp sound
    rw [runsShaped_iff]
    simp only [State.finishPost, rederive_motion, rederive_tt, enterPhase_motion, enterPhase_tt]
    refine ⟨?_, tt⟩
    simp_all [MotionShaped, Phase.moves, Phase.timed]

/-- The entry to POST (R39) from a phase that holds drive enable on, STOPPING apart. -/
theorem enterPost_keeps (drives : s.motion.phase.drives = true)
    (restable : .shaped ∈ e ∨ (s.RunsShaped → Restable s.motion)) : Keeps e s s.enterPost := by
  have running : s.motion.phase ≠ .faulted := by rintro f; simp [f, Phase.drives] at drives
  have entered := entered_keeps s (e := e) (ph := .post) (f := fun m =>
    { m with current := none, retreat := none, phaseTimer := some s.settings.postTime })
    (restable.imp_right fun r sound => by
      obtain ⟨scene, pending, fault⟩ := r sound
      simp [MotionShaped, Phase.moves, Phase.timed, scene, pending, fault])
    le_rfl (.inr ⟨drives.symm, rfl, by simp⟩) (.inr running)
  exact .ite (fun _ => entered.trans (finishPost_keeps _ (by simp))) fun _ => entered

/-- What the entry to POST leaves is shaped, whatever came before, if the motion may come to rest. -/
theorem enterPost_shaped (tt : TurnShaped s.tt) (r : Restable s.motion) : s.enterPost.RunsShaped := by
  obtain ⟨scene, pending, fault⟩ := r
  rw [runsShaped_iff]
  unfold State.enterPost
  dsimp only
  split
  · refine ⟨?_, by simpa [State.finishPost] using tt⟩
    simp [State.finishPost, MotionShaped, Phase.moves, Phase.timed, scene, pending, fault]
  · refine ⟨?_, by simpa using tt⟩
    simp [MotionShaped, Phase.moves, Phase.timed, scene, pending, fault]

/-- The completion of a soft stop (R70), the programme dropped or not. -/
theorem stopCompletes_keeps {f : MotionGenerator → MotionGenerator} (cause : StopCause)
    (drives : s.motion.phase.drives = true) (phase : (f s.motion).phase = s.motion.phase)
    (latch : (f s.motion).servoLatch = s.motion.servoLatch)
    (queue : (f s.motion).queue.length ≤ s.motion.queue.length)
    (fault : (f s.motion).fault = s.motion.fault)
    (scene : s.motion.sceneTimer.isSome = s.motion.holds.scene →
      (f s.motion).sceneTimer.isSome = (f s.motion).holds.scene) :
    Keeps e s ((s.onMotion f).stopCompletes cause) := by
  have running : s.motion.phase ≠ .faulted := by rintro f; simp [f, Phase.drives] at drives
  let g : MotionGenerator → MotionGenerator := fun m =>
    { f m with lastStop := some ⟨.soft, cause⟩, pendingStop := none }
  have stopped : Keeps (.shaped :: e) s ((s.onMotion g).latch .stopped) :=
    (onMotion_keeps (f := g) s (.inl (by simp)) queue (.inr ⟨by simp [g, phase], latch, by simp [g, phase]⟩)
      (.inr fun f => absurd f running)).trans (latch_keeps _ _)
  refine Keeps.patch (x := .shaped)
    (stopped.trans (enterPost_keeps _ (by simpa [g, phase] using drives) (.inl (by simp)))) fun sound => ?_
  obtain ⟨motion, tt⟩ := (runsShaped_iff s).mp sound
  obtain ⟨-, -, -, -, -, -, faulted, agrees, -⟩ := motion
  exact enterPost_shaped _ tt ⟨scene agrees, rfl, by
    simpa [g, fault] using mt faulted.mp running⟩

theorem programmeDropped_queue (m : MotionGenerator) : m.programmeDropped.queue = [] := rfl

/-- A soft stop (R69, R70). -/
theorem softStop_keeps (cause : StopCause) : Keeps e s (s.softStop cause) := by
  have moving (drives : s.motion.phase.drives = true) (moves : s.motion.phase.moves = true) :
      Keeps e s ((s.onMotion fun m =>
        { m.programmeDropped.retreatBegun with pendingStop := some cause }).enterPhase .stopping) := by
    have begun (m : MotionGenerator) : m.programmeDropped.retreatBegun.queue = []
        ∧ m.programmeDropped.retreatBegun.servoLatch = m.servoLatch := by
      unfold MotionGenerator.retreatBegun
      split <;> exact ⟨rfl, rfl⟩
    refine entered_keeps s (.inr fun sound => ?_) (by simp [begun])
      (.inr ⟨drives.symm, by simp [begun], by simp⟩) (.inr (by rintro f; simp [f, Phase.drives] at drives))
    obtain ⟨⟨leg, -, timer, -, -, -, fault, -, -, -, last⟩, -⟩ := (runsShaped_iff s).mp sound
    obtain ⟨c, current⟩ := Option.isSome_iff_exists.mp (leg moves)
    have free : s.motion.fault = none := by
      rw [← Option.not_isSome_iff_eq_none, fault]; rintro f; simp [f, Phase.drives] at drives
    have untimed : s.motion.phaseTimer = none := by
      rw [← Option.not_isSome_iff_eq_none, timer]; revert moves; cases s.motion.phase <;> decide
    unfold MotionGenerator.retreatBegun
    cases hr : s.motion.retreat <;>
      simp_all [MotionShaped, MotionGenerator.programmeDropped, MotionGenerator.flushed, noHolds,
        Phase.moves, Phase.timed, CurrentLeg.exitZeroed]
  have resting (drives : s.motion.phase.drives = true) :
      Keeps e s ((s.onMotion (·.programmeDropped)).stopCompletes cause) :=
    stopCompletes_keeps s cause drives rfl rfl (by simp [programmeDropped_queue]) rfl fun _ => rfl
  unfold State.softStop
  match h : s.motion.phase with
  | .accel | .cruise | .decel | .holding => exact moving (by rw [h]; rfl) (by rw [h]; rfl)
  | .pre | .dwell | .held => exact resting (by rw [h]; rfl)
  | .idle | .post | .stopping | .faulted => exact .refl s

/-! ## Turntable ends -/

/-- A change of the turntable after which it is idle, drive enable being left to be re-derived. -/
theorem runEnded_keeps {f : Turntable → Turntable} (position : (f s.tt).position = s.tt.position)
    (shaped : TurnShaped (f s.tt)) : Keeps (.drive :: e) s (s.onTurntable f) :=
  onTurntable_keeps s (by rw [position]; exact id)
    (.inr fun sound => (runsShaped_iff _).mpr ⟨((runsShaped_iff s).mp sound).1, shaped⟩) (.inl (by simp))

theorem turnEnds_keeps (target : Nat) (mode : TurnMode) (o : TurnOutcome) :
    Keeps (.drive :: e) s (s.turnEnds target mode o) :=
  (runEnded_keeps s rfl (turnShaped_runEnded s.tt)).trans (latch_keeps _ _)

theorem homeEnds_keeps (o : HomeOutcome) : Keeps (.drive :: e) s (s.homeEnds o) :=
  (runEnded_keeps s rfl (turnShaped_runEnded s.tt)).trans (latch_keeps _ _)

/-- An end of a turn with drive enable re-derived. -/
theorem turnEnded_keeps (target : Nat) (mode : TurnMode) (o : TurnOutcome) :
    Keeps e s (s.turnEnds target mode o).rederive :=
  rederived_keeps (turnEnds_keeps s target mode o) fun safe =>
    ⟨safe.derivable.told, safe.derivable.brake, safe.derivable.off⟩

/-- A homing run ended with its pulses, and drive enable re-derived. -/
theorem homeEnded_keeps (o : HomeOutcome) :
    Keeps e s ((s.endPlan .turntable).homeEnds o).rederive := by
  have pulsed := endPlan_pulsed s .turntable
  refine rederived_keeps ((pulsed_keeps pulsed).trans (homeEnds_keeps _ o)) fun safe => ?_
  have motion := pulsed.motion
  have seats := pulsed.seats
  have enable := pulsed.enable
  have brake := pulsed.brake
  refine ⟨?_, fun b => ?_, ?_⟩
  · show (s.endPlan .turntable).seats.driveTold = (s.endPlan .turntable).drive.enable
    rw [seats, enable]; exact safe.derivable.told
  · show (s.endPlan .turntable).motion.phase.drives = true
    rw [motion]; exact safe.derivable.brake (brake b)
  · show (s.endPlan .turntable).motion.phase = .faulted → (s.endPlan .turntable).motion.servoLatch = false
    rw [motion]; exact safe.derivable.off

/-- What the turntable's stop at once leaves (R91). -/
structure TableStopped (s t : State) : Prop where
  motion : t.motion = s.motion
  seats : t.seats = s.seats
  enable : t.drive.enable = s.drive.enable
  brake : t.drive.brakeRelease = true → s.drive.brakeRelease = true
  idle : t.tt.phase = .idle

theorem turntableStop_stopped : TableStopped s s.turntableStop := by
  have pulsed := endPlan_pulsed s .turntable
  have motion := pulsed.motion
  have seats := pulsed.seats
  unfold State.turntableStop
  split
  · next idle => exact ⟨rfl, rfl, rfl, id, idle⟩
  dsimp only
  split
  · split
    · exact ⟨motion, seats, pulsed.enable, pulsed.brake, rfl⟩
    · exact ⟨motion, seats, pulsed.enable, pulsed.brake, rfl⟩
  · exact ⟨motion, seats, pulsed.enable, pulsed.brake, rfl⟩

theorem turntableStop_keeps : Keeps (.drive :: e) s s.turntableStop := by
  refine .ite (fun _ => .refl s) fun _ => ?_
  have pulsed : Keeps (.drive :: e) s _ := pulsed_keeps (endPlan_pulsed s .turntable)
  dsimp only
  split
  · split
    · exact pulsed.trans (turnEnds_keeps _ _ _ _)
    · exact pulsed.trans (homeEnds_keeps _ _)
  · exact pulsed.trans (runEnded_keeps _ rfl (turnShaped_runEnded _))

/-! ## Stops of everything -/

/-- What a hard stop, a first fault and a MOTION reset share leaves (R71, R75, R79). -/
structure AllStopped (s t : State) : Prop where
  motion : t.motion = { s.motion.programmeDropped with
    servoLatch := false, current := none, retreat := none, phaseTimer := none, pendingStop := none }
  seats : t.seats = s.seats
  enable : t.drive.enable = s.drive.enable
  brake : t.drive.brakeRelease = false
  idle : t.tt.phase = .idle

theorem stopAll_stopped : AllStopped s s.stopAll := by
  have pulsed := cut_pulsed s
  have released := cut_brakeRelease s
  unfold State.stopAll
  generalize s.cut = u at pulsed released
  obtain ⟨motion, seats, enable, brake, idle⟩ := turntableStop_stopped u
  generalize u.turntableStop = v at motion seats enable brake idle
  refine ⟨?_, seats.trans pulsed.seats, enable.trans pulsed.enable, ?_, idle⟩
  · rw [State.onMotion_motion, motion, pulsed.motion]
  · rw [State.onMotion_drive, Bool.eq_false_iff]
    exact fun on => by simpa [released] using brake on

/-- The stop of everything, whatever becomes of the phase. -/
theorem stopAll_keeps : Keeps (.drive :: .shaped :: e) s s.stopAll := by
  have cut : Keeps (.drive :: .shaped :: e) s s.cut.turntableStop :=
    (pulsed_keeps (cut_pulsed s)).trans (turntableStop_keeps _)
  unfold State.stopAll
  generalize s.cut.turntableStop = u at cut
  exact cut.trans (onMotion_keeps u (.inl (by simp)) (by simp [programmeDropped_queue])
    (.inl (by simp)) (.inr fun f => ⟨f, rfl⟩))

/-- A motion at rest with nothing left to do, in a phase without a leg. -/
theorem motionShaped_stopped {m : MotionGenerator} (moves : m.phase.moves = false)
    (timed : m.phase.timed = false) (held : m.phase ≠ .held) (current : m.current = none)
    (timer : m.phaseTimer = none) (retreat : m.retreat = none) (pending : m.pendingStop = none)
    (fault : m.fault.isSome ↔ m.phase = .faulted) (scene : m.sceneTimer.isSome = m.holds.scene) :
    MotionShaped m := by
  have phases : m.phase = .idle ∨ m.phase = .faulted := by
    revert moves timed held; cases m.phase <;> decide
  rcases phases with h | h <;> simp_all [MotionShaped, Phase.moves, Phase.timed]

/-- The turntable after the stop of everything. -/
theorem stopAll_turnShaped (h : TurnShaped s.tt) : TurnShaped s.stopAll.tt := by
  have same := (cut_pulsed s).tt
  unfold State.stopAll
  generalize s.cut = u at same
  rw [State.onMotion_tt]
  unfold State.turntableStop
  split
  · rw [same]; exact h
  dsimp only
  split
  · split <;> exact turnShaped_runEnded _
  · exact turnShaped_runEnded _

/-- The stop of everything with drive enable re-derived, into IDLE or staying in FAULTED. -/
theorem stopped_keeps {u : State} {ph : Phase} {last : Option LastStop} {f : Option FaultRecord}
    (moved : Keeps (.drive :: .shaped :: e) s u)
    (motion : u.motion = { s.motion.programmeDropped with
      servoLatch := false, current := none, retreat := none, phaseTimer := none, pendingStop := none,
      phase := ph, lastStop := last, fault := f })
    (seats : u.seats = s.seats) (enable : u.drive.enable = s.drive.enable)
    (brake : u.drive.brakeRelease = false) (tt : TurnShaped s.tt → TurnShaped u.tt)
    (phase : ph = .idle ∨ ph = .faulted) (fault : s.RunsShaped → (f.isSome ↔ ph = .faulted)) :
    Keeps e s u.rederive := by
  refine Keeps.patch (x := .shaped) (rederived_keeps moved fun safe => ?_) fun sound => ?_
  · refine ⟨?_, ?_, ?_⟩
    · rw [seats, enable]; exact safe.derivable.told
    · simp [brake]
    · simp [motion]
  · rw [runsShaped_iff, rederive_motion, rederive_tt, motion]
    refine ⟨?_, tt ((runsShaped_iff s).mp sound).2⟩
    rcases phase with rfl | rfl
    · exact motionShaped_stopped rfl rfl (by simp) rfl rfl rfl rfl (fault sound) rfl
    · exact motionShaped_stopped rfl rfl (by simp) rfl rfl rfl rfl (fault sound) rfl

end

end Sys2Proof.Machine
end

section
/-! The loss of the permit, hard stops, faults and the turntable's operations, and what they keep. -/

namespace Sys2Proof.Machine

-- One theorem at a time: each waits for the kernel, and many waiting at once are many threads.
set_option Elab.async false

section
variable {e : List Part} (s : State)

/-! ## The loss of the permit (R115) -/

theorem turntablePermitLoss_keeps : Keeps e s s.turntablePermitLoss := by
  unfold State.turntablePermitLoss
  split
  case h_1 r phase run =>
    refine onTurntable_keeps s id (.inr fun sound => ?_) (.inr (by simp [phase]))
    obtain ⟨motion, -, timer, kind⟩ := (runsShaped_iff s).mp sound
    obtain ⟨-, turn, -, homed⟩ := kind r run
    refine (runsShaped_iff _).mpr ⟨motion, by simp, ?_, ?_⟩
    · simpa [phase] using timer
    · simpa using And.intro (turn (.inl phase)) homed
  case h_2 r phase run =>
    split
    · exact turnEnded_keeps s _ _ _
    · exact .ite (fun _ => .refl s) fun _ => homeEnded_keeps s _
  case h_3 => exact .ite (fun _ => .refl s) fun _ => homeEnded_keeps s _
  case h_4 => exact .refl s

theorem motionPermitLoss_keeps : Keeps e s s.motionPermitLoss := by
  unfold State.motionPermitLoss
  match s.motion.phase with
  | .accel | .cruise | .decel | .holding | .pre | .held =>
    exact (softStop_keeps s _).trans (showStop_keeps _ _)
  | .dwell => exact softStop_keeps s _
  | .stopping | .idle | .post | .faulted => exact .refl s

theorem permitLoss_keeps (cause : LossCause) : Keeps e s (s.permitLoss cause) :=
  .ite (fun _ => .refl s) fun _ =>
    (((onPermit_keeps_of_lost s rfl).trans (latch_keeps _ _)).trans (motionPermitLoss_keeps _)).trans
      (turntablePermitLoss_keeps _)

/-- The permit is not held after a loss of it. -/
theorem permitLoss_noPermit (cause : LossCause) : (s.permitLoss cause).permit.state = .noPermit := by
  by_cases held : s.permit.state = .noPermit
  · rw [State.permitLoss, if_pos held]; exact held
  · rw [permitLoss_permit cause held]; rfl

/-! ## Hard stops and faults (R71, R75, R76) -/

theorem hardStop_keeps (cause : StopCause) (running : s.motion.phase ≠ .faulted) :
    Keeps e s (s.hardStop cause) := by
  have stopped : Keeps e s ((((s.stopAll.enterPhase .idle).onMotion fun m =>
      { m with lastStop := some ⟨.hard, cause⟩ }).latch .stopped).rederive) := by
    have all := stopAll_keeps (e := e) s
    have tt := stopAll_turnShaped s
    obtain ⟨motion, seats, enable, brake, -⟩ := stopAll_stopped s
    generalize s.stopAll = u at all tt motion seats enable brake
    refine stopped_keeps s (((all.trans (enterPhase_keeps u (.inl (by simp)) (.inl (by simp))
      (.inr (by rw [motion]; exact running)))).trans (onMotion_keeps _ (.inl (by simp)) le_rfl
        (.inl (by simp)) (.inr fun f => ⟨f, rfl⟩))).trans (latch_keeps _ _))
      (ph := .idle) (f := s.motion.fault) (last := some ⟨.hard, cause⟩) ?_ ?_ ?_ ?_ ?_ (.inl rfl) fun sound => ?_
    · simp only [State.latch_motion, State.onMotion_motion, enterPhase_motion, motion]; rfl
    · simpa using seats
    · simpa using enable
    · simpa using brake
    · simpa using tt
    · obtain ⟨⟨-, -, -, -, -, -, fault, -⟩, -⟩ := (runsShaped_iff s).mp sound
      rw [fault]
      simp [running]
  exact .ite (fun _ => stopped.trans (showStop_keeps _ _)) fun _ => stopped

theorem firstFault_keeps (cause : FaultCause) (running : s.motion.phase ≠ .faulted) :
    Keeps e s (s.firstFault cause) := by
  have stopped (record : FaultRecord) : Keeps e s ((((s.stopAll.onMotion fun m =>
      { m with fault := some record }).enterPhase .faulted).latch .motionFault).rederive) := by
    have all := stopAll_keeps (e := e) s
    have tt := stopAll_turnShaped s
    obtain ⟨motion, seats, enable, brake, -⟩ := stopAll_stopped s
    generalize s.stopAll = u at all tt motion seats enable brake
    refine stopped_keeps s ((all.trans (entered_keeps u (.inl (by simp)) le_rfl (.inl (by simp))
      (.inr (by rw [motion]; exact running)))).trans (latch_keeps _ _))
      (ph := .faulted) (f := some record) (last := s.motion.lastStop) ?_ ?_ ?_ ?_ ?_ (.inr rfl) fun _ => by simp
    · simp only [State.latch_motion, State.onMotion_motion, enterPhase_motion, motion]; rfl
    · simpa using seats
    · simpa using enable
    · simpa using brake
    · simpa using tt
  exact ((stopped _).trans (permitLoss_keeps _ _)).trans (showStop_keeps _ _)

theorem secondFault_keeps (faulted : s.motion.phase = .faulted) : Keeps e s s.secondFault := by
  have counted : Keeps (.drive :: e) s
      (s.onMotion fun m => { m with extraFaults := min 255 (m.extraFaults + 1) }) :=
    onMotion_keeps s (.inr id) le_rfl (.inr ⟨rfl, rfl, id⟩) (.inr fun f => ⟨f, rfl⟩)
  unfold State.secondFault
  have moved := (counted.trans (pulsed_keeps (cut_pulsed _))).trans (turntableStop_keeps _)
  refine rederived_keeps moved fun safe => ?_
  have pulsed := cut_pulsed (s.onMotion fun m => { m with extraFaults := min 255 (m.extraFaults + 1) })
  generalize (s.onMotion fun m => { m with extraFaults := min 255 (m.extraFaults + 1) }).cut = u at pulsed
  obtain ⟨motion, seats, enable, brake, -⟩ := turntableStop_stopped u
  refine ⟨?_, fun b => ?_, fun _ => ?_⟩
  · rw [seats, enable, pulsed.seats, pulsed.enable]; exact safe.derivable.told
  · rw [motion, pulsed.motion]; exact safe.derivable.brake (pulsed.brake (brake b))
  · rw [motion, pulsed.motion]; exact safe.derivable.off faulted

theorem report_keeps (cause : FaultCause) : Keeps e s (s.report cause) :=
  .ite (fun faulted => secondFault_keeps s faulted) fun running => firstFault_keeps s cause running

theorem reports_keeps (l : List FaultCause) : Keeps e s (l.foldl (fun t c => t.report c) s) :=
  .foldl report_keeps l s

theorem reportConditions_keeps : Keeps e s s.reportConditions :=
  .foldl (fun t _ => .ite (fun _ => report_keeps t _) fun _ => .refl t) allAxes s

theorem rederiveReporting_keeps {t : State} (h : Keeps e s t.rederive) :
    Keeps e s t.rederiveReporting :=
  .ite (fun _ => h.trans (reportConditions_keeps _)) fun _ => h

theorem motionReset_keeps : Keeps e s s.motionReset := by
  refine .ite (fun faulted => ?_) fun running => hardStop_keeps s _ running
  obtain ⟨motion, seats, enable, brake, -⟩ := stopAll_stopped s
  refine stopped_keeps s (stopAll_keeps s) (ph := .faulted) (f := s.motion.fault)
    (last := s.motion.lastStop) (by rw [motion, ← faulted]; rfl) seats enable brake
    (stopAll_turnShaped s) (.inr rfl) fun sound => ?_
  obtain ⟨⟨-, -, -, -, -, -, fault, -⟩, -⟩ := (runsShaped_iff s).mp sound
  rw [fault]
  simp [faulted]

/-- Clear Motion Fault (R77) is the one way out of FAULTED. -/
theorem clearFaultJudged_keeps {t : State} (h : s.clearFaultJudged = .ok t) :
    Keeps [.fault] s t := by
  unfold State.clearFaultJudged at h
  split at h
  · cases h
  next faulted =>
  rw [not_not] at faulted
  cases h
  have cleared : Keeps [.drive, .force, .shaped, .fault] s (((s.onMotion fun m =>
      { m with fault := none, extraFaults := 0 }).enterPhase .idle).onRoute fun r =>
      { r with errors := ⟨0, 0, 0⟩, conditions := ⟨false, false, false⟩ }) := by
    refine (entered_keeps s (f := fun m => { m with fault := none, extraFaults := 0 }) (ph := .idle)
      (.inl (by simp)) le_rfl (.inl (by simp)) (.inl (by simp))).trans ?_
    refine .outside (onRoute_outside _ _) fun x touched => ?_
    cases x <;> simp [Part.blocks] at touched
    · exact .inr id
    · exact .inl (by simp)
  refine Keeps.patch (x := .shaped) (Keeps.patch (x := .force) (rederived_keeps cleared fun safe => ?_)
    fun force => ?_) fun sound => ?_
  · have off : s.drive.brakeRelease = false := by
      rw [Bool.eq_false_iff]; intro b; simpa [faulted, Phase.drives] using safe.derivable.brake b
    exact ⟨by simpa using safe.derivable.told, by simp [off], by simp⟩
  · obtain ⟨fitted, limit, -, wheel, turn⟩ := force
    refine ⟨fun i => ?_, by simpa using limit, fun i reached => ?_, by simpa using wheel,
      by simpa using turn⟩
    · rw [State.fitted, rederive_seat]
      simp only [State.seat, State.onRoute_seats, enterPhase_seats, State.onMotion_seats,
        rederive_settings, State.onRoute_settings, enterPhase_settings, State.onMotion_settings]
      exact fitted i
    exfalso
    simp only [rederive_settings, rederive_route, State.onRoute_settings, enterPhase_settings,
      State.onMotion_settings, State.onRoute_route] at reached
    cases i <;> simp [PerAxis.get] at reached <;> omega
  · obtain ⟨⟨-, rest, timer, -, -, pending, -, scene, -, -, -⟩, tt⟩ := (runsShaped_iff s).mp sound
    have current : s.motion.current = none := by
      rw [← Option.not_isSome_iff_eq_none]; intro c; simpa [faulted, Phase.moves] using rest c
    obtain ⟨⟨-, -, -, retreat, -⟩, -⟩ := (runsShaped_iff s).mp sound
    have noRetreat : s.motion.retreat = none := by
      rw [← Option.not_isSome_iff_eq_none]; intro c; simpa [faulted] using retreat c
    rw [runsShaped_iff]
    refine ⟨?_, by simpa using tt⟩
    simp only [rederive_motion, State.onRoute_motion, enterPhase_motion, State.onMotion_motion]
    exact motionShaped_stopped rfl rfl (by simp) current
      (by simpa [faulted, Phase.timed] using timer) noRetreat (by simpa [faulted] using pending)
      (by simp) scene

/-! ## Encoder conditions (R2, R18) -/

theorem foldl_set_get (l : List Axis) (c : PerAxis Bool) (i : Axis) :
    (l.foldl (fun c i => c.set i true) c).get i = (decide (i ∈ l) || c.get i) := by
  induction l generalizing c with
  | nil => simp
  | cons j l ih =>
    rw [List.foldl_cons, ih, PerAxis_get_set]
    by_cases h : i = j <;> simp [h]

/-- A test of encoders latches every condition among its axes that is due. -/
theorem testEncoders_inForce (axes : List Axis) (i : Axis) (tested : i ∈ axes)
    (reached : s.settings.encoderErrorLimit ≤ s.route.errors.get i) :
    (s.testEncoders axes).route.conditions.get i = true := by
  rw [testEncoders_route, foldl_set_get]
  cases latched : s.route.conditions.get i <;> simp [State.overErrorLimit, tested, reached, latched]

theorem testEncoders_keeps (axes : List Axis) : Keeps e s (s.testEncoders axes) := by
  have latched : Keeps e s (s.onRoute fun r =>
      { r with conditions := (s.overErrorLimit axes).foldl (fun c i => c.set i true) r.conditions }) := by
    refine .outside (onRoute_outside s _) fun x touched => .inr ?_
    cases x <;> simp [Part.blocks] at touched
    · exact id
    · rintro ⟨fitted, limit, force, lengths⟩
      refine ⟨fitted, limit, fun i reached => ?_, lengths⟩
      rw [State.onRoute_route]
      show ((s.overErrorLimit axes).foldl (fun c i => c.set i true) s.route.conditions).get i = true
      rw [foldl_set_get, force i reached, Bool.or_true]
  exact .ite (fun _ => latched.trans (.foldl (fun t _ => report_keeps t _) _ _)) fun _ => latched

/-! ## The turntable's operations -/

/-- A turn begun on an idle turntable or at the end of its TT_PRE, drive enable being left to be
re-derived. -/
theorem beginTurn_keeps (target : Nat) (mode : TurnMode) :
    Keeps (.drive :: e) s (s.beginTurn target mode) := by
  unfold State.beginTurn
  dsimp only
  refine .ite (fun _ => turnEnds_keeps s _ _ _) fun _ => onTurntable_keeps s id
    (.inr fun sound => ?_) (.inl (by simp))
  exact (runsShaped_iff _).mpr ⟨((runsShaped_iff s).mp sound).1, by
    simp [TurnShaped, Run.fresh]⟩

@[simp] theorem beginTurn_drive (target : Nat) (mode : TurnMode) :
    (s.beginTurn target mode).drive = s.drive := by
  unfold State.beginTurn; dsimp only; split <;> rfl

@[simp] theorem beginTurn_motion (target : Nat) (mode : TurnMode) :
    (s.beginTurn target mode).motion = s.motion := by
  unfold State.beginTurn; dsimp only; split <;> rfl

@[simp] theorem beginTurn_seats (target : Nat) (mode : TurnMode) :
    (s.beginTurn target mode).seats = s.seats := by
  unfold State.beginTurn; dsimp only; split <;> rfl

theorem beginTurn_derivable (target : Nat) (mode : TurnMode) (safe : s.DriveSafe) :
    (s.beginTurn target mode).Derivable := by
  obtain ⟨told, brake, off⟩ := safe.derivable
  exact ⟨by simpa using told, by simpa using brake, by simpa using off⟩

theorem ttPreEnd_keeps : Keeps e s s.ttPreEnd := by
  refine .ite (fun ⟨phase, timer⟩ => ?_) fun _ => .refl s
  split
  next r run =>
    split
    next target mode _ =>
      exact rederived_keeps (beginTurn_keeps s target mode) (beginTurn_derivable s target mode)
    next home =>
      refine onTurntable_keeps s id (.inr fun sound => ?_) (.inr (by simp [phase]))
      obtain ⟨motion, runs, -, kind⟩ := (runsShaped_iff s).mp sound
      obtain ⟨-, -, retreat, homed⟩ := kind r run
      refine (runsShaped_iff _).mpr ⟨motion, by simp [run], by simp, ?_⟩
      intro r' run'
      obtain rfl : r = r' := by simpa [run] using run'
      exact ⟨fun _ => home, by simp, by simpa [phase] using retreat, homed⟩
  · exact .refl s

theorem enterTurnPre_keeps (r : Run) (retreat : r.retreat = none)
    (homed : r.kind = .home → s.tt.homed = false) : Keeps e s (s.enterTurnPre r) := by
  unfold State.enterTurnPre
  refine .trans (rederiveReporting_keeps s (rederived_keeps (onTurntable_keeps s id
    (.inr fun sound => ?_) (.inl (by simp))) fun safe => ?_)) (ttPreEnd_keeps _)
  · refine (runsShaped_iff _).mpr ⟨((runsShaped_iff s).mp sound).1, by simp, by simp, ?_⟩
    intro r' run'
    obtain rfl : r = r' := by simpa using run'
    exact ⟨by simp, by simp, by simp [retreat], homed⟩
  · exact ⟨safe.derivable.told, safe.derivable.brake, safe.derivable.off⟩

theorem turnJudged_keeps (target : BitVec 16) (mode : Byte) {t : State}
    (h : s.turnJudged target mode = .ok t) : Keeps e s t := by
  unfold State.turnJudged at h
  split at h <;> [cases h; skip]
  next md _ =>
  split at h <;> [cases h; skip]
  split at h <;> [cases h; skip]
  split at h <;> [cases h; skip]
  split at h <;> [cases h; skip]
  split at h <;> [cases h; skip]
  next busy =>
  have idle : s.tt.phase = .idle := not_not.mp busy
  dsimp only at h
  split at h <;> cases h
  · next atOnce =>
    refine Keeps.patch (beginTurn_keeps s target.toNat md) fun safe => ?_
    have ⟨wanted, told, brake, off⟩ := safe
    refine ⟨?_, by simpa using told, by simpa using brake, by simpa using off⟩
    rw [beginTurn_drive, wanted, State.driveWanted, State.driveWanted, beginTurn_motion]
    unfold State.beginTurn
    dsimp only
    split
    · simp [State.turnEnds, Turntable.runEnded, idle]
    · next far =>
      have on := atOnce.resolve_left far
      rw [wanted, State.driveWanted, idle] at on
      rw [idle, State.onTurntable_tt, show (TurnPhase.turning != .idle) = true from rfl, on]
      simp
  · exact enterTurnPre_keeps s _ rfl (by simp [Run.fresh])

theorem homeJudged_keeps {t : State} (h : s.homeJudged = .ok t) : Keeps e s t := by
  unfold State.homeJudged at h
  split at h <;> [cases h; skip]
  split at h <;> [cases h; skip]
  split at h <;> [cases h; skip]
  next busy =>
  have idle : s.tt.phase = .idle := not_not.mp busy
  have away : Keeps e s (s.onTurntable fun t => { t with homed := false }) := by
    refine onTurntable_keeps s id (.inr fun sound => ?_) (.inr Iff.rfl)
    obtain ⟨motion, run, timer, -⟩ := (runsShaped_iff s).mp sound
    refine (runsShaped_iff _).mpr ⟨motion, run, timer, fun r hr => ?_⟩
    have gone : s.tt.run = none := by
      rw [← Option.not_isSome_iff_eq_none, run]; simp [idle]
    rw [State.onTurntable_tt] at hr
    simp [gone] at hr
  dsimp only at h
  split at h <;> cases h
  · next on =>
    refine away.trans ?_
    refine Keeps.patch (onTurntable_keeps (e := .drive :: e) _ id (.inr fun sound => ?_) (.inl (by simp))) fun safe => ?_
    · obtain ⟨motion, -, timer, -⟩ := (runsShaped_iff _).mp sound
      refine (runsShaped_iff _).mpr ⟨motion, by simp, ?_, ?_⟩
      · simpa [idle] using timer
      · simp [Run.fresh]
    · obtain ⟨wanted, told, brake, off⟩ := safe
      refine ⟨?_, told, brake, off⟩
      show s.drive.enable = _
      rw [show s.drive.enable = true from on]
      simp [State.driveWanted]
  · exact away.trans (enterTurnPre_keeps _ _ rfl fun _ => rfl)

/-- A run in flight that goes on in its phase, its kind and its retreat being kept. -/
theorem runGoes_keeps {r r' : Run} (run : s.tt.run = some r) (kind : r'.kind = r.kind)
    (retreat : r'.retreat.isSome = r.retreat.isSome) :
    Keeps e s (s.onTurntable fun t => { t with run := some r' }) := by
  refine onTurntable_keeps s id (.inr fun sound => ?_) (.inr Iff.rfl)
  obtain ⟨motion, runs, timer, shape⟩ := (runsShaped_iff s).mp sound
  refine (runsShaped_iff _).mpr ⟨motion, by simpa [run] using runs, timer, fun x hx => ?_⟩
  obtain rfl : r' = x := by simpa using hx
  have was := shape r run
  rw [← kind, ← retreat] at was
  exact was

theorem runStepMoved_same (x : Settings) (r : Run) :
    (r.stepMoved x).kind = r.kind ∧ (r.stepMoved x).retreat = r.retreat := by
  unfold Run.stepMoved
  dsimp only
  split_ifs <;> exact ⟨rfl, rfl⟩

theorem turnTickOf_keeps (r : Run) (run : s.tt.run = some r) : Keeps e s (s.turnTickOf r) := by
  unfold State.turnTickOf
  dsimp only
  refine .trans (onDrive_keeps s rfl id) (runGoes_keeps _ (r := r) run ?_ ?_)
  · exact (runStepMoved_same _ _).1
  · simp [runStepMoved_same, Run.advanced]

theorem turntableTick_keeps : Keeps e s s.turntableTick := by
  unfold State.turntableTick
  split
  · next r _ run => exact turnTickOf_keeps s r run
  · next r _ run => exact turnTickOf_keeps s r run
  · next r _ run =>
    unfold State.homeTickOf
    dsimp only
    exact .trans (onDrive_keeps s rfl id) (runGoes_keeps _ (r := r) run rfl rfl)
  · exact onDrive_keeps s rfl id

theorem turnEnd_keeps : Keeps e s s.turnEnd := by
  unfold State.turnEnd
  split
  · split
    · exact .ite (fun _ => turnEnded_keeps s _ _ _) fun _ => .refl s
    · exact .refl s
  · split
    · exact .ite (fun _ => turnEnded_keeps s _ _ _) fun _ => .refl s
    · exact .refl s
  · exact .refl s

theorem turnRetreatAtRest_keeps : Keeps e s s.turnRetreatAtRest := by
  unfold State.turnRetreatAtRest
  split
  · split
    · exact .ite (fun _ => turnEnded_keeps s _ _ _) fun _ => .refl s
    · exact .refl s
  · split
    · exact .ite (fun _ => turnEnded_keeps s _ _ _) fun _ => .refl s
    · exact .refl s
  · exact .refl s

theorem homingLimit_keeps : Keeps e s s.homingLimit := by
  unfold State.homingLimit
  split
  · exact .ite (fun _ => homeEnded_keeps s _) fun _ => .refl s
  · exact .refl s

theorem indexEvent_keeps : Keeps e s s.indexEvent := by
  unfold State.indexEvent
  split
  · have pulsed := endPlan_pulsed s .turntable
    have kept : Keeps (.drive :: e) s (s.endPlan .turntable) := pulsed_keeps pulsed
    dsimp only
    generalize s.endPlan .turntable = u at pulsed kept
    have ended : Keeps (.drive :: e) u ((u.onTurntable fun t =>
        { t with position := 0, homed := true, indexPart := u.route.delta.turntable }).homeEnds .done) := by
      refine .trans (onTurntable_keeps u (f := fun t => { t.runEnded with
        position := 0, homed := true, indexPart := u.route.delta.turntable, lastHome := some .done })
        (fun p => Nat.zero_lt_of_lt p) (.inr fun sound => ?_) (.inl (by simp))) (latch_keeps _ _)
      refine (runsShaped_iff _).mpr ⟨((runsShaped_iff u).mp sound).1, ?_⟩
      simp [TurnShaped, Turntable.runEnded]
    refine rederived_keeps (kept.trans ended) fun safe => ⟨?_, fun b => ?_, ?_⟩
    · show u.seats.driveTold = u.drive.enable
      rw [pulsed.seats, pulsed.enable]; exact safe.derivable.told
    · show u.motion.phase.drives = true
      rw [pulsed.motion]; exact safe.derivable.brake (pulsed.brake b)
    · show u.motion.phase = .faulted → u.motion.servoLatch = false
      rw [pulsed.motion]; exact safe.derivable.off
  · exact .refl s

theorem turntableClose_keeps (delta : Int) : Keeps e s (s.turntableClose delta) := by
  refine onTurntable_keeps s (fun p => ?_) (.inr fun sound => sound) (.inr Iff.rfl)
  have positive : (0 : Int) < s.settings.countsPerRevolution := by omega
  have below := Int.emod_lt_of_pos (s.tt.position + (delta - s.tt.indexPart)) positive
  have above := Int.emod_nonneg (s.tt.position + (delta - s.tt.indexPart)) positive.ne'
  show ((s.tt.position + (delta - s.tt.indexPart)) % (s.settings.countsPerRevolution : Int)).toNat < _
  omega

theorem occupancyTold_keeps (occupied : Bool) : Keeps e s (s.occupancyTold occupied) :=
  .ite (fun _ => homeEnded_keeps s _) fun _ => .refl s

end

end Sys2Proof.Machine
end

section
/-! Seats and permit: what their operations keep. -/

namespace Sys2Proof.Machine

-- One theorem at a time: each waits for the kernel, and many waiting at once are many threads.
set_option Elab.async false

/-! ## What becomes of a seat's record -/

/-- A record that a seat may take without a command or a setting: its standing stays, a fault stays
with its cause, and a confirmation that stays is the same one. -/
structure Seat.Follows (x y : Seat) : Prop where
  fitted : y.state = .notFitted ↔ x.state = .notFitted
  fault : x.state = .fault → y.state = .fault ∧ y.cause = x.cause
  confirmed : x.state = .confirmed → y.state = .confirmed → y.confirmGeneration = x.confirmGeneration

namespace Seat.Follows
variable {x y z : Seat}

/-- A change that leaves state, cause and confirmation alone. -/
theorem of_same (state : y.state = x.state) (cause : y.cause = x.cause)
    (generation : y.confirmGeneration = x.confirmGeneration) : x.Follows y :=
  ⟨by rw [state], fun f => ⟨state.trans f, cause⟩, fun _ _ => generation⟩

/-- A change of state, from neither NOT_FITTED nor FAULT. -/
theorem of_move (left : x.state ≠ .notFitted) (healthy : x.state ≠ .fault) (stands : y.state ≠ .notFitted)
    (moved : y.state ≠ .confirmed) : x.Follows y :=
  ⟨iff_of_false stands left, fun f => absurd f healthy, fun _ c => absurd c moved⟩

theorem after_same (h : y.Follows z) (state : y.state = x.state) (cause : y.cause = x.cause)
    (generation : y.confirmGeneration = x.confirmGeneration) : x.Follows z := by
  obtain ⟨fitted, fault, confirmed⟩ := h
  rw [state] at fitted fault confirmed
  exact ⟨fitted, cause ▸ fault, generation ▸ confirmed⟩

end Seat.Follows

theorem pairCounted_same (r : PairReading) (x : Seat) : (x.pairCounted r).state = x.state
    ∧ (x.pairCounted r).cause = x.cause
    ∧ (x.pairCounted r).confirmGeneration = x.confirmGeneration := by
  unfold Seat.pairCounted
  split_ifs <;> exact ⟨rfl, rfl, rfl⟩

theorem occupancyCounted_same (closed : Bool) (x : Seat) : (x.occupancyCounted closed).state = x.state
    ∧ (x.occupancyCounted closed).cause = x.cause
    ∧ (x.occupancyCounted closed).confirmGeneration = x.confirmGeneration := by
  unfold Seat.occupancyCounted
  split_ifs <;> exact ⟨rfl, rfl, rfl⟩

theorem sampled_follows (set : Settings) (r : PairReading) (closed : Bool) (x : Seat) :
    x.Follows (x.sampled set r closed) := by
  obtain ⟨state, cause, generation⟩ := pairCounted_same r x
  obtain ⟨state', cause', generation'⟩ := occupancyCounted_same closed (x.pairCounted r)
  exact .of_same (state'.trans state) (cause'.trans cause) (generation'.trans generation)

/-- A record's state after an entry into FAULT. -/
@[simp] theorem faulted_state (c : SeatFaultCause) (x : Seat) : (x.faulted c).state = .fault := by
  unfold Seat.faulted
  split
  · next h => exact h
  · rfl

theorem faulted_follows (c : SeatFaultCause) {x : Seat} (fitted : x.state ≠ .notFitted) :
    x.Follows (x.faulted c) := by
  refine ⟨by simp [fitted], fun f => ⟨by simp, ?_⟩, by simp⟩
  simp [Seat.faulted, f]

theorem pairChanged_follows (r : PairReading) (x : Seat) : x.Follows (x.pairChanged r) := by
  unfold Seat.pairChanged
  split
  case h_1 state | h_3 state =>
    exact .of_move (by simp [state]) (by simp [state]) (by simp) (by simp)
  case h_2 state | h_4 state | h_5 state | h_6 state =>
    exact faulted_follows _ (by simp [state])
  case h_7 state =>
    exact .of_move (by simp [state]) (by simp [state]) (by simp [Seat.released])
      (by simp [Seat.released])
  case h_8 => exact .of_same rfl rfl rfl

theorem pairAccepted_follows (r : PairReading) (x : Seat) : x.Follows (x.pairAccepted r) :=
  (pairChanged_follows r _).after_same rfl rfl rfl

theorem occupancyAccepted_follows (x : Seat) : x.Follows x.occupancyAccepted := by
  unfold Seat.occupancyAccepted
  dsimp only
  split
  · next state =>
    exact .of_move (by simp [state]) (by simp [state]) (by simp [Seat.unconfirmed])
      (by simp [Seat.unconfirmed])
  · exact .of_same rfl rfl rfl

theorem barMoved_follows (slack : Nat) (lowering : Bool) (x : Seat) :
    x.Follows (x.barMoved slack lowering) := by
  unfold Seat.barMoved
  dsimp only
  generalize (if lowering = true then min 255 (x.bar + 1) else x.bar - 1) = bar
  split
  · exact .of_same rfl rfl rfl
  split
  · next lost => exact (faulted_follows _ (by simp [lost])).after_same rfl rfl rfl
  · exact .of_same rfl rfl rfl

section
variable {e : List Part} (s : State)

/-! ## The seat change (R104) -/

/-- The record of a seat and the seat change that it may be; a changed confirmation needs a permit that
is not held. -/
theorem seatUpdate_keeps {i : Fin 8} {y : Seat}
    (fitted : y.state = .notFitted ↔ (s.seat i).state = .notFitted)
    (fault : .seatFault ∈ e ∨ ((s.seat i).state = .fault →
      y.state = .fault ∧ y.cause = (s.seat i).cause))
    (confirmed : s.permit.state = .noPermit ∨ ((s.seat i).state = .confirmed →
      y.state = .confirmed → y.confirmGeneration = (s.seat i).confirmGeneration)) :
    Keeps e s (s.seatUpdate i y) := by
  have stays (n : Nat) (h : (s.seat i).state = .confirmed → y.state = .confirmed) :
      Keeps e s (s.setSeat i { y with changes := n }) :=
    setSeat_keeps s fitted fault
      (.inr (confirmed.imp_right fun k c => ⟨h c, k c (h c)⟩))
  unfold State.seatUpdate
  refine .ite (fun ⟨state, _⟩ => stays y.changes fun c => state.trans c) fun _ => ?_
  dsimp only
  refine .ite (fun _ => ?_) fun keeps => ?_
  · have moved (t : State) (h : Keeps (.permit :: e) s t) : Keeps e s (t.permitLoss .seatChanged) :=
      (h.trans (permitLoss_keeps t _)).patch fun _ held => absurd (permitLoss_noPermit t _) held
    have changed : Keeps (.permit :: e) s _ :=
      (setSeat_keeps (i := i) s (y := { y with changes := ((s.seat i).changes + 1) % 256 }) fitted
        (fault.imp_left (List.mem_cons_of_mem _)) (.inl (by simp))).trans (latch_keeps _ .seatChange)
    exact moved _ (.ite (fun _ => changed.trans (latch_keeps _ _)) fun _ => changed)
  · have changed : Keeps e s _ :=
      (stays (((s.seat i).changes + 1) % 256) fun c => by
        by_contra out; exact keeps ⟨c, out⟩).trans (latch_keeps _ .seatChange)
    exact .ite (fun _ => changed.trans (latch_keeps _ _)) fun _ => changed

theorem seatUpdate_follows {i : Fin 8} {y : Seat} (h : (s.seat i).Follows y) :
    Keeps e s (s.seatUpdate i y) :=
  seatUpdate_keeps s h.fitted (.inr h.fault) (.inr h.confirmed)

/-! ## Events of a seat -/

theorem sampleSeat_keeps (i : Fin 8) : Keeps e s (s.sampleSeat i) := by
  refine .ite (fun _ => ?_) fun _ => .refl s
  obtain ⟨state, cause, generation⟩ := pairCounted_same (s.rawReading i) (s.seat i)
  obtain ⟨state', cause', generation'⟩ :=
    occupancyCounted_same (s.pins.occupancy.getLsbD i) ((s.seat i).pairCounted (s.rawReading i))
  refine setSeat_keeps s ?_ (.inr fun f => ⟨?_, ?_⟩) (.inr (.inr fun c => ⟨?_, ?_⟩))
  · rw [← state, ← state']; exact Iff.rfl
  · exact (state'.trans state).trans f
  · exact cause'.trans cause
  · exact (state'.trans state).trans c
  · exact generation'.trans generation

theorem pairAccept_keeps (i : Fin 8) : Keeps e s (s.pairAccept i) := by
  unfold State.pairAccept
  split
  · exact .ite (fun _ => seatUpdate_follows s (pairAccepted_follows _ _)) fun _ => .refl s
  · exact .refl s

theorem occupancyChange_keeps (i : Fin 8) : Keeps e s (s.occupancyChange i) :=
  .ite (fun _ => (seatUpdate_follows s (occupancyAccepted_follows _)).trans (occupancyTold_keeps _ _))
    fun _ => .refl s

theorem pullInEnd_keeps (i : Fin 8) : Keeps e s (s.pullInEnd i) :=
  .ite (fun _ => setSeat_keeps s Iff.rfl (.inr fun f => ⟨f, rfl⟩) (.inr (.inr fun c => ⟨c, rfl⟩)))
    fun _ => .refl s

theorem releaseTimedOut_keeps (i : Fin 8) : Keeps e s (s.releaseTimedOut i) :=
  .ite (fun ⟨state, _⟩ => seatUpdate_follows s (faulted_follows _ (by simp [state]))) fun _ => .refl s

theorem seatEnds_keeps (i : Fin 8) : Keeps e s (s.seatEnds i) :=
  (((pairAccept_keeps s i).trans (occupancyChange_keeps _ i)).trans (pullInEnd_keeps _ i)).trans
    (releaseTimedOut_keeps _ i)

theorem barEdge_keeps (i : Fin 8) (lowering : Bool) : Keeps e s (s.barEdge i lowering) :=
  .ite (fun _ => seatUpdate_follows s (barMoved_follows _ _ _)) fun _ => .refl s

/-! ## Commands of the Seat Monitor -/

theorem dropRequest_keeps {t : State} (h : s.dropRequest = some t) : Keeps e s t := by
  unfold State.dropRequest at h
  split at h
  next rest =>
    obtain rfl : (s.onMotion fun m => { m with servoLatch := false }).rederive = t := by simpa using h
    refine rederived_keeps (onMotion_keeps s (.inr id) le_rfl (.inl (by simp)) (.inr fun f => ⟨f, rfl⟩))
      fun safe => ⟨safe.derivable.told, safe.derivable.brake, fun _ => rfl⟩
  next => cases h

theorem releaseSeat_keeps (mask : BitVec 8) (i : Fin 8) : Keeps e s (s.releaseSeat mask i) := by
  refine .ite (fun ⟨_, locked⟩ => seatUpdate_follows s (.of_move ?_ ?_ ?_ ?_)) fun _ => .refl s
  · rcases locked with h | h <;> simp [h]
  · rcases locked with h | h <;> simp [h]
  · simp [Seat.releasing]
  · simp [Seat.releasing]

theorem releaseJudged_keeps (mask : BitVec 8) {t : State} (h : s.releaseJudged mask = .ok t) :
    Keeps e s t := by
  unfold State.releaseJudged at h
  split at h
  · cases h
  next u dropped =>
    cases h
    exact ((dropRequest_keeps s dropped).trans (permitLoss_keeps u _)).trans
      (.foldl (fun w i => releaseSeat_keeps w mask i) _ _)

theorem clearSeats_keeps (mask : BitVec 8) : Keeps [.seatFault] s (s.clearSeats mask) := by
  refine .foldl (fun w i => .ite (fun _ => seatUpdate_keeps w ?_ (.inl (by simp)) (.inr ?_))
    fun _ => .refl w) _ s
  all_goals
    unfold Seat.cleared
    split
    · first | exact Iff.rfl | exact fun _ _ => rfl
    next faulted =>
    rw [not_not] at faulted
    split <;> simp [faulted]

/-! ## The Permit Unit -/

theorem checked_fitted (r : CheckResult) (g : Nat) (x : Seat) :
    (x.checked r g).state = .notFitted ↔ x.state = .notFitted := by
  unfold Seat.checked
  dsimp only
  split <;> simp_all [Seat.unconfirmed]

theorem checked_fault (r : CheckResult) (g : Nat) (x : Seat) (f : x.state = .fault) :
    (x.checked r g).state = .fault ∧ (x.checked r g).cause = x.cause := by
  unfold Seat.checked
  dsimp only
  split <;> simp_all

/-- A check passed by a seat in LOCKED or CONFIRMED confirms it. -/
theorem checked_pass {x : Seat} (g : Nat) (h : x.state = .locked ∨ x.state = .confirmed) :
    (x.checked .pass g).state = .confirmed ∧ (x.checked .pass g).confirmGeneration = some g := by
  unfold Seat.checked
  dsimp only
  split <;> simp_all

theorem judged_none {set : Settings} {x : Seat} : x.judged set = none ↔ x.state = .notFitted := by
  unfold Seat.judged
  split
  case h_5 | h_6 => dsimp only; split_ifs <;> simp_all
  all_goals simp_all

theorem judged_pass {set : Settings} {x : Seat} (h : x.judged set = some .pass) :
    x.state = .locked ∨ x.state = .confirmed := by
  unfold Seat.judged at h
  split at h <;> simp_all

/-! ### Seats one by one -/

/-- The record that an update leaves: a change of state or of the occupied field is counted (R104). -/
def Seat.counted (x y : Seat) : Seat :=
  if y.state = x.state ∧ y.occupied = x.occupied then y
  else { y with changes := (x.changes + 1) % 256 }

theorem permitLoss_seat (cause : LossCause) (j : Fin 8) : (s.permitLoss cause).seat j = s.seat j := by
  by_cases held : s.permit.state = .noPermit
  · rw [State.permitLoss, if_pos held]
  · rw [State.seat, State.seat, (permitLoss_reaction cause held).seat]

@[simp] theorem latch_seat (d : Event) (j : Fin 8) : (s.latch d).seat j = s.seat j := rfl

theorem seatUpdate_seat (i j : Fin 8) (y : Seat) :
    (s.seatUpdate i y).seat j = if j = i then (s.seat i).counted y else s.seat j := by
  unfold State.seatUpdate Seat.counted
  dsimp only
  by_cases same : y.state = (s.seat i).state ∧ y.occupied = (s.seat i).occupied
  · rw [if_pos same, if_pos same, State.seat_setSeat]
    simp only [eq_comm]
  · rw [if_neg same, if_neg same]
    simp only [eq_comm (a := j)]
    split_ifs <;> simp only [permitLoss_seat, latch_seat, State.seat_setSeat] <;> simp_all

/-- Without a permit a seat change is no loss, and touches the seats and the ports' records alone. -/
theorem seatUpdate_free (i : Fin 8) (y : Seat) (h : s.permit.state = .noPermit) :
    SameBut [.records, .seats] s (s.seatUpdate i y) := by
  have changed := SameBut_seq (c := [.records, .seats]) (setSeat_outside s i
    { y with changes := ((s.seat i).changes + 1) % 256 }) (latch_outside _ .seatChange)
  have faulted := SameBut_seq (c := [.records, .seats]) changed (latch_outside _ .seatFault)
  have lose (t : State) (free : t.permit.state = .noPermit) (frame : SameBut [.records, .seats] s t) :
      SameBut [.records, .seats] s (t.permitLoss .seatChanged) := by
    rw [State.permitLoss, if_pos free]; exact frame
  refine SameBut_ite (SameBut_mono (setSeat_outside _ _ _) (by decide)) ?_
  by_cases faults : y.state = .fault ∧ (s.seat i).state ≠ .fault
  · rw [if_pos faults]
    exact SameBut_ite (lose _ h faulted) faulted
  · rw [if_neg faults]
    exact SameBut_ite (lose _ h changed) changed

theorem mem_allSeats (i : Fin 8) : i ∈ allSeats := by revert i; decide

/-- A fold over the seats that changes each of them once, while `I` holds. -/
theorem foldl_allSeats_seat {f : State → Fin 8 → State} {g : Fin 8 → Seat → Seat} (I : State → Prop)
    (keep : ∀ t i, I t → I (f t i))
    (one : ∀ t i j, I t → (f t i).seat j = if j = i then g i (t.seat i) else t.seat j)
    (start : I s) (j : Fin 8) : (allSeats.foldl f s).seat j = g j (s.seat j) := by
  have each (l : List (Fin 8)) (once : l.Nodup) (t : State) (h : I t) :
      (l.foldl f t).seat j = if j ∈ l then g j (t.seat j) else t.seat j := by
    induction l generalizing t with
    | nil => simp
    | cons i l ih =>
      obtain ⟨out, once⟩ := List.nodup_cons.mp once
      rw [List.foldl_cons, ih once _ (keep t i h), one t i j h]
      by_cases same : j = i
      · subst same; simp [out]
      · simp [same]
  rw [each allSeats (by decide) s start, if_pos (mem_allSeats j)]

theorem foldl_preserves {α β : Type} {I : β → Prop} {f : β → α → β} (h : ∀ t x, I t → I (f t x))
    (l : List α) (t : β) (start : I t) : I (l.foldl f t) := by
  induction l generalizing t with
  | nil => exact start
  | cons x l ih => exact ih _ (h t x start)

/-! ### Begin Check (R116 to R119) -/

theorem checkResults_get (i : Fin 8) : s.checkResults[i]'i.isLt = (s.seat i).judged s.settings := by
  have each (l : List (Fin 8)) (v : Vector (Option CheckResult) 8) :
      (l.foldl (fun v (i : Fin 8) => v.set i ((s.seat i).judged s.settings)) v)[i]'i.isLt
        = if i ∈ l then (s.seat i).judged s.settings else v[i]'i.isLt := by
    induction l generalizing v with
    | nil => simp
    | cons j l ih =>
      rw [List.foldl_cons, ih, Vector_get_set]
      by_cases h : j = i
      · subst h; simp
      · simp [h, Ne.symm h]
  exact (each allSeats _).trans (if_pos (mem_allSeats i))

theorem handResult_keeps (v : Vector (Option CheckResult) 8) (g : Nat) (i : Fin 8)
    (h : s.permit.state = .noPermit) : Keeps e s (s.handResult v g i) := by
  unfold State.handResult
  split
  · exact .refl s
  · exact seatUpdate_keeps s (checked_fitted _ _ _) (.inr (checked_fault _ _ _)) (.inl h)

theorem handResult_free (v : Vector (Option CheckResult) 8) (g : Nat) (i : Fin 8)
    (h : s.permit.state = .noPermit) : SameBut [.records, .seats] s (s.handResult v g i) := by
  unfold State.handResult
  split
  · exact SameBut_refl _ s
  · exact seatUpdate_free s i _ h

/-- Without a permit, what a check hands the seats touches the seats and the ports' records alone. -/
theorem handResults_free (v : Vector (Option CheckResult) 8) (g : Nat)
    (h : s.permit.state = .noPermit) :
    SameBut [.records, .seats] s (allSeats.foldl (State.handResult v g) s) := by
  generalize allSeats = l
  induction l generalizing s with
  | nil => exact SameBut_refl _ s
  | cons i l ih =>
    have one := handResult_free s v g i h
    exact SameBut_seq one (ih _ (by rw [one.same .permit]; exact h))

/-- What a check makes of a seat's record (R105). -/
def Seat.handed (r : Option CheckResult) (g : Nat) (x : Seat) : Seat :=
  match r with
  | none => x
  | some r => x.counted (x.checked r g)

theorem handResult_seat (v : Vector (Option CheckResult) 8) (g : Nat) (i j : Fin 8) :
    (s.handResult v g i).seat j = if j = i then (s.seat i).handed (v[i]'i.isLt) g else s.seat j := by
  unfold State.handResult Seat.handed
  split
  · next none => simp only [none]; split <;> simp_all
  · next r some => simp only [some]; exact seatUpdate_seat s i j _

theorem handResults_seat (v : Vector (Option CheckResult) 8) (g : Nat) (j : Fin 8) :
    (allSeats.foldl (State.handResult v g) s).seat j = (s.seat j).handed (v[j]'j.isLt) g :=
  foldl_allSeats_seat s (g := fun i x => x.handed (v[i]'i.isLt) g) (fun _ => True) (fun _ _ => id)
    (fun t i j _ => handResult_seat t v g i j) trivial j

@[simp] theorem counted_state (x y : Seat) : (x.counted y).state = y.state := by
  unfold Seat.counted; split <;> rfl

@[simp] theorem counted_confirmGeneration (x y : Seat) :
    (x.counted y).confirmGeneration = y.confirmGeneration := by
  unfold Seat.counted; split <;> rfl

theorem allPassed_get {v : Vector (Option CheckResult) 8} (h : allPassed v = true) (i : Fin 8) :
    v[i]'i.isLt = none ∨ v[i]'i.isLt = some .pass := by
  have each := List.all_eq_true.mp h (v[i]'i.isLt) (by simp)
  simpa using each

theorem handResults_keeps (v : Vector (Option CheckResult) 8) (g : Nat)
    (h : s.permit.state = .noPermit) : Keeps e s (allSeats.foldl (State.handResult v g) s) := by
  generalize allSeats = l
  induction l generalizing s with
  | nil => exact .refl s
  | cons i l ih =>
    refine (handResult_keeps s v g i h).trans (ih _ ?_)
    rw [(handResult_free s v g i h).same .permit]
    exact h

/-- The Permit Unit's record of a check's results, before the seats are told (R117, R118). -/
def State.checkPosted (s : State) : State :=
  s.onPermit fun p =>
    { p with generation := nextGeneration s.permit.generation,
             fittedMask := maskBelow s.settings.fittedSeatCount, results := s.checkResults,
             passMask := passMaskOf s.checkResults }

/-- The seats told of a check's results (R119). -/
def State.checkHanded (s : State) : State :=
  allSeats.foldl (State.handResult s.checkResults (nextGeneration s.permit.generation)) s.checkPosted

theorem check_eq : s.check = (((s.permitLoss .newCheck).checkHanded).latch .checkDone).onPermit
    (·.outcome (s.permitLoss .newCheck).checkHanded.settings.concurWindow
      (s.permitLoss .newCheck).checkResults) := rfl

theorem checkHanded_seat (i : Fin 8) : s.checkHanded.seat i =
    (s.seat i).handed ((s.seat i).judged s.settings) (nextGeneration s.permit.generation) :=
  (handResults_seat s.checkPosted _ _ i).trans (by rw [checkResults_get]; rfl)

theorem checkHanded_permit (h : s.permit.state = .noPermit) :
    s.checkHanded.permit = s.checkPosted.permit :=
  (handResults_free s.checkPosted _ _ h).same .permit

/-- A seat judged PASS is CONFIRMED with the check's generation. -/
theorem handed_pass {set : Settings} {x : Seat} (g : Nat) (h : x.judged set = some .pass) :
    (x.handed (x.judged set) g).state = .confirmed
      ∧ (x.handed (x.judged set) g).confirmGeneration = some g := by
  rw [h, Seat.handed, counted_state, counted_confirmGeneration]
  exact checked_pass g (judged_pass h)

theorem handed_notFitted {set : Settings} {x : Seat} (g : Nat) (h : x.judged set = none) :
    (x.handed (x.judged set) g).state = .notFitted := by
  rw [h]
  exact judged_none.mp h

theorem check_keeps : Keeps e s s.check := by
  have lost : Keeps (.permit :: e) s (s.permitLoss .newCheck) := permitLoss_keeps s _
  have free : (s.permitLoss .newCheck).permit.state = .noPermit := permitLoss_noPermit s _
  rw [check_eq]
  generalize s.permitLoss .newCheck = u at lost free
  have handed : Keeps (.permit :: e) u u.checkHanded :=
    (onPermit_keeps_of_lost u (f := fun p =>
      { p with generation := nextGeneration u.permit.generation,
               fittedMask := maskBelow u.settings.fittedSeatCount, results := u.checkResults,
               passMask := passMaskOf u.checkResults }) free).trans
      (handResults_keeps u.checkPosted _ _ free)
  have permit := checkHanded_permit u free
  have seat := checkHanded_seat u
  generalize u.checkHanded = x at handed permit seat
  have outcome : Keeps (.permit :: e) (x.latch .checkDone) ((x.latch .checkDone).onPermit
      (·.outcome x.settings.concurWindow u.checkResults)) := by
    refine .outside (onPermit_outside _ _) fun y touched => ?_
    cases y <;> simp [Part.blocks] at touched
    · exact .inl (by simp)
    · refine .inr fun _ => ?_
      unfold Permit.outcome
      split <;> simp_all [State.checkPosted]
  refine Keeps.patch (x := .permit)
    (((lost.trans handed).trans (latch_keeps x _)).trans outcome) fun _ held i fitted => ?_
  have passed : allPassed u.checkResults = true := by
    by_contra failed
    exact held (by simp [Permit.outcome, failed, permit, State.checkPosted, free])
  have generation : (x.permit.outcome x.settings.concurWindow u.checkResults).generation
      = nextGeneration u.permit.generation := by
    rw [Permit.outcome, if_pos passed, permit]; rfl
  show (x.seat i).state = _ ∧ (x.seat i).confirmGeneration = some
    (x.permit.outcome x.settings.concurWindow u.checkResults).generation
  have stands : (x.seat i).state ≠ .notFitted := by
    simpa [State.fitted, State.seat] using fitted
  rw [seat] at stands ⊢
  rw [generation]
  rcases allPassed_get passed i with r | r <;> rw [checkResults_get] at r
  · exact absurd (handed_notFitted _ r) stands
  · exact handed_pass _ r

theorem checkJudged_keeps {t : State} (h : s.checkJudged = .ok t) : Keeps e s t := by
  unfold State.checkJudged at h
  split at h <;> cases h
  exact check_keeps s

/-! ### Concur and consent -/

theorem concurOp_keeps (p : Port) (generation : BitVec 16) (mask : BitVec 8) :
    Keeps [.grant] s (s.concurOp p generation mask) := by
  refine .ite (fun _ => refuse_keeps s _ _ _) fun current => .ite
    (fun _ => (refuse_keeps s _ _ _).trans (permitLoss_keeps _ _)) fun _ => ?_
  obtain ⟨awaiting, -⟩ := not_or.mp current
  rw [not_not] at awaiting
  refine .trans (.outside (onPermit_outside s _) fun y touched => ?_) (latch_keeps _ _)
  cases y <;> simp [Part.blocks] at touched
  · exact .inr fun sound _ => sound (by simp [awaiting])
  · exact .inl (by simp)

theorem renewJudged_keeps (generation : BitVec 16) {t : State} (h : s.renewJudged generation = .ok t) :
    Keeps e s t := by
  unfold State.renewJudged at h
  split at h <;> cases h
  exact onPermit_keeps s rfl rfl

theorem permitFallen_same (p : Permit) : (p.concurFallen.consentFallen).state = p.state
    ∧ (p.concurFallen.consentFallen).generation = p.generation := by
  unfold Permit.consentFallen Permit.concurFallen
  split_ifs <;> exact ⟨rfl, rfl⟩

theorem permitTick_keeps : Keeps e s s.permitTick := by
  have fallen : Keeps e s (s.onPermit fun p => p.concurFallen.consentFallen) :=
    onPermit_keeps s (permitFallen_same _).1 (permitFallen_same _).2
  exact .ite (fun _ => (fallen.trans (onPermit_keeps _ rfl rfl)).trans (latch_keeps _ _))
    fun _ => fallen

theorem concurTimeout_keeps : Keeps e s s.concurTimeout :=
  .ite (fun _ => permitLoss_keeps s _) fun _ => .refl s

theorem consentExpired_keeps : Keeps e s s.consentExpired :=
  .ite (fun _ => permitLoss_keeps s _) fun _ => .refl s

end

end Sys2Proof.Machine
end

section
/-! Legs, timed periods and holds: what their operations keep. -/

namespace Sys2Proof.Machine

-- One theorem at a time: each waits for the kernel, and many waiting at once are many threads.
set_option Elab.async false

/-! ## Shapes of a motion -/

theorem runPhase_cases (k top : Nat) : runPhase k top = .accel ∨ runPhase k top = .cruise := by
  unfold runPhase; split <;> simp

/-- A leg that runs without a retreat, no hold standing. -/
theorem motionShaped_running {m : MotionGenerator} (r : Restable m)
    (phase : m.phase = .accel ∨ m.phase = .cruise) {c : CurrentLeg} (current : m.current = some c)
    (last : c.kEff = none ∨ c.kEff = m.lastEff) (timer : m.phaseTimer = none)
    (retreat : m.retreat = none) (free : m.holds.isEmpty = true) : MotionShaped m := by
  obtain ⟨scene, pending, fault⟩ := r
  rcases phase with phase | phase <;> simp_all [MotionShaped, Phase.moves, Phase.timed]

/-- A motion held at rest, with a leg or without. -/
theorem motionShaped_held {m : MotionGenerator} (r : Restable m) (phase : m.phase = .held)
    (last : ∀ c, m.current = some c → c.kEff = none) (timer : m.phaseTimer = none)
    (retreat : m.retreat = none) (holds : m.holds.isEmpty = false) : MotionShaped m := by
  obtain ⟨scene, pending, fault⟩ := r
  simp_all [MotionShaped, Phase.moves, Phase.timed]

theorem running_of_drives {ph : Phase} (drives : ph.drives = true) : ph ≠ .faulted := by
  rintro rfl; simp [Phase.drives] at drives

theorem drives_of_moves {ph : Phase} (moves : ph.moves = true) : ph.drives = true := by
  revert moves; cases ph <;> decide

theorem untimed_of_moves {ph : Phase} (moves : ph.moves = true) : ph.timed = false := by
  revert moves; cases ph <;> decide

section
variable {e : List Part} (s : State)

theorem clearFractions_keeps : Keeps e s s.clearFractions := onDrive_keeps s rfl id

/-- The head leg that starts from rest leaves a shaped motion, if the motion may come to rest and no
hold stands. -/
theorem startFromRest_shaped {l : Leg} {rest : List Leg} (queue : s.motion.queue = l :: rest)
    (tt : TurnShaped s.tt) (r : Restable s.motion) (free : s.motion.holds.isEmpty = true) :
    s.startFromRest.RunsShaped := by
  obtain ⟨scene, pending, fault⟩ := r
  rw [runsShaped_iff]
  unfold State.startFromRest
  rw [queue]
  dsimp only
  rw [enterPhase_motion, enterPhase_tt]
  exact ⟨motionShaped_running ⟨scene, pending, fault⟩ (runPhase_cases _ _) rfl (.inl rfl) rfl rfl free, tt⟩

/-- The head leg's start from rest (R31). -/
theorem startFromRest_keeps (drives : s.motion.phase.drives = true)
    (shaped : .shaped ∈ e ∨ (s.RunsShaped → Restable s.motion ∧ s.motion.holds.isEmpty = true)) :
    Keeps e s s.startFromRest := by
  cases queue : s.motion.queue with
  | nil => unfold State.startFromRest; rw [queue]; exact .refl s
  | cons l rest =>
    have moved : Keeps (.shaped :: e) s s.startFromRest := by
      unfold State.startFromRest
      rw [queue]
      dsimp only
      refine .trans (clearFractions_keeps s) (entered_keeps _ (.inl (by simp)) ?_ (.inr ⟨?_, rfl, ?_⟩)
        (.inr (running_of_drives drives)))
      · show rest.length ≤ s.motion.queue.length
        rw [queue]; simp
      · show _ = s.motion.phase.drives
        rw [drives]
        rcases runPhase_cases 0 (currentOf s.settings.rampCount l 0 0).leg.top with h | h <;> rw [h] <;> rfl
      · rcases runPhase_cases 0 (currentOf s.settings.rampCount l 0 0).leg.top with h | h <;> simp [h]
    rcases shaped with excepted | shaped
    · exact moved.mono (by simp [excepted])
    · exact moved.patch fun sound => startFromRest_shaped s queue ((runsShaped_iff s).mp sound).2
        (shaped sound).1 (shaped sound).2

/-- At rest for a hold with no current leg. -/
theorem heldWithoutLeg_keeps (drives : s.motion.phase.drives = true)
    (shaped : .shaped ∈ e ∨ (s.RunsShaped → Restable s.motion ∧ s.motion.holds.isEmpty = false)) :
    Keeps e s s.heldWithoutLeg := by
  refine entered_keeps s (shaped.imp_right fun k sound => ?_) le_rfl (.inr ⟨drives.symm, rfl, by simp⟩)
    (.inr (running_of_drives drives))
  obtain ⟨⟨scene, pending, fault⟩, held⟩ := k sound
  exact motionShaped_held ⟨scene, pending, fault⟩ rfl (by simp) rfl rfl held

/-- What follows the end of PRE or DWELL (R29, R38). -/
theorem afterPeriod_keeps (drives : s.motion.phase.drives = true)
    (shaped : s.RunsShaped → Restable s.motion) : Keeps e s s.afterPeriod := by
  refine .ite (fun held => heldWithoutLeg_keeps s drives (.inr fun sound => ⟨shaped sound, ?_⟩)) fun free =>
    .ite (fun _ => (latch_keeps s _).trans (enterPost_keeps _ drives (.inr shaped))) fun _ =>
    .ite (fun _ => enterPost_keeps s drives (.inr shaped)) fun _ =>
    startFromRest_keeps s drives (.inr fun sound => ⟨shaped sound, ?_⟩)
  · simpa using held
  · simpa using free

/-- A state that is shaped and neither stopping nor faulted may come to rest. -/
theorem State.RunsShaped.restable {s : State} (sound : s.RunsShaped) (stopping : s.motion.phase ≠ .stopping)
    (faulted : s.motion.phase ≠ .faulted) : Restable s.motion :=
  ((runsShaped_iff s).mp sound).1.restable stopping faulted

theorem preEnd_keeps : Keeps e s s.preEnd :=
  .ite (fun ⟨phase, _⟩ => afterPeriod_keeps s (by rw [phase]; rfl) fun sound =>
    sound.restable (by simp [phase]) (by simp [phase])) fun _ => .refl s

theorem dwellEnd_keeps : Keeps e s s.dwellEnd :=
  .ite (fun ⟨phase, _⟩ => afterPeriod_keeps s (by rw [phase]; rfl) fun sound =>
    sound.restable (by simp [phase]) (by simp [phase])) fun _ => .refl s

theorem postEnd_keeps : Keeps e s s.postEnd :=
  .ite (fun ⟨phase, _⟩ => finishPost_keeps s phase) fun _ => .refl s

/-- The entry to PRE from IDLE (R28). -/
theorem enterPre_keeps (idle : s.motion.phase = .idle) : Keeps e s s.enterPre := by
  refine .ite (fun _ => reportConditions_keeps s) fun _ => ?_
  have timed : Keeps (.shaped :: .drive :: e) s
      (s.onMotion fun m => { m with phaseTimer := some s.settings.preTime }) :=
    onMotion_keeps s (.inl (by simp)) le_rfl (.inl (by simp)) (.inr (by simp [idle]))
  have opened : Keeps (.shaped :: .drive :: e) (s.onMotion fun m =>
      { m with phaseTimer := some s.settings.preTime })
      ((s.onMotion fun m => { m with phaseTimer := some s.settings.preTime }).onDrive fun d =>
        { d.zeroed with brakeRelease := true }) :=
    (onDrive_open_keeps (e := e) _ _).mono (by simp +contextual)
  have entered := (timed.trans opened).trans (enterPhase_keeps _ (ph := .pre) (.inl (by simp))
    (.inl (by simp)) (.inr (by simp [idle])))
  refine .trans (rederiveReporting_keeps s (rederived_keeps (entered.patch fun sound => ?_)
    fun safe => ?_)) (preEnd_keeps _)
  · obtain ⟨motion, tt⟩ := (runsShaped_iff s).mp sound
    refine (runsShaped_iff _).mpr ⟨?_, by simpa using tt⟩
    simp only [enterPhase_motion, State.onDrive_motion, State.onMotion_motion]
    obtain ⟨scene, pending, fault⟩ := motion.restable (by simp [idle]) (by simp [idle])
    obtain ⟨-, rest, -, retreat, -⟩ := motion
    have none : s.motion.current = none := by
      rw [← Option.not_isSome_iff_eq_none]; intro c; simpa [idle, Phase.moves] using rest c
    simp_all [MotionShaped, Phase.moves, Phase.timed]
  · obtain ⟨told, -, -⟩ := safe.derivable
    exact ⟨by simpa [DriveUnit.zeroed] using told, by simp [Phase.drives], by simp⟩

theorem goJudged_keeps {t : State} (h : s.goJudged = .ok t) : Keeps e s t := by
  unfold State.goJudged at h
  split at h <;> [cases h; skip]
  split at h <;> [cases h; skip]
  next atRest =>
  split at h <;> [cases h; skip]
  split at h <;> [cases h; skip]
  split at h
  · next idle => cases h; exact enterPre_keeps s idle
  next moving =>
  have post : s.motion.phase = .post := by
    by_contra h; exact atRest ⟨moving, h⟩
  have drives : s.motion.phase.drives = true := by rw [post]; rfl
  have shaped (sound : s.RunsShaped) : Restable s.motion :=
    sound.restable (by simp [post]) (by simp [post])
  split at h <;> cases h
  · next held => exact heldWithoutLeg_keeps s drives (.inr fun sound => ⟨shaped sound, by simpa using held⟩)
  · next free => exact startFromRest_keeps s drives (.inr fun sound => ⟨shaped sound, by simpa using free⟩)

/-! ## The queue -/

theorem appendJudged_keeps (b : LegBytes) (seek : Option (Byte × Byte)) {t : State}
    (h : s.appendJudged b seek = .ok t) : Keeps e s t := by
  unfold State.appendJudged at h
  split at h
  · split at h <;> [cases h; skip]
    split at h <;> [cases h; skip]
    split at h <;> [cases h; skip]
    split at h <;> [cases h; skip]
    next room =>
    split at h <;> cases h
    refine .outside (onMotion_outside s _) fun x touched => .inr ?_
    cases x <;> simp [Part.blocks] at touched
    · exact id
    · exact id
    · rintro ⟨-, table, ids, log⟩
      refine ⟨?_, table, ids, log⟩
      simp only [State.onMotion_motion, List.length_append, List.length_singleton]
      omega
    · exact fun f => ⟨f, rfl⟩
  · cases h

/-- The current leg with its exit step made 0 where it is latched keeps its effective step. -/
theorem flushed_shaped {m : MotionGenerator} (h : MotionShaped m) : MotionShaped m.flushed := by
  obtain ⟨leg, rest, timer, retreat, retreats, pending, fault, scene, held, free, last⟩ := h
  refine ⟨by simpa [MotionGenerator.flushed] using leg, by simpa [MotionGenerator.flushed] using rest,
    timer, retreat, retreats, pending, fault, scene, held, free, fun c hc => ?_⟩
  obtain ⟨d, hd, rfl⟩ := Option.map_eq_some_iff.mp hc
  exact last d hd

theorem flushed_keeps : Keeps e s (s.onMotion (·.flushed)) :=
  onMotion_keeps s (.inr fun sound => by
    obtain ⟨motion, tt⟩ := (runsShaped_iff s).mp sound
    exact (runsShaped_iff _).mpr ⟨flushed_shaped motion, tt⟩)
    (by simp [MotionGenerator.flushed]) (.inr ⟨rfl, rfl, id⟩) (.inr fun f => ⟨f, rfl⟩)

/-! ## The ends of legs -/

theorem flowJoin_keeps (kLeg stepDistance : Nat)
    (running : s.motion.phase = .accel ∨ s.motion.phase = .cruise ∨ s.motion.phase = .decel) :
    Keeps e s (s.flowJoin kLeg stepDistance) := by
  have drives : s.motion.phase.drives = true := by rcases running with h | h | h <;> rw [h] <;> rfl
  unfold State.flowJoin
  split
  · exact .refl s
  next l rest queue =>
    dsimp only
    refine entered_keeps s (.inr fun sound => ?_) (by rw [queue]; simp) (.inr ⟨?_, rfl, ?_⟩)
      (.inr (running_of_drives drives))
    · obtain ⟨motion, -⟩ := (runsShaped_iff s).mp sound
      obtain ⟨scene, pending, fault⟩ := motion.restable (by rcases running with h | h | h <;> simp [h])
        (running_of_drives drives)
      obtain ⟨-, -, timer, -, -, -, -, -, -, free, -⟩ := motion
      exact motionShaped_running ⟨scene, pending, fault⟩ (runPhase_cases _ _) rfl (.inl rfl)
        (by rcases running with h | h | h <;> simpa [h, Phase.timed] using timer) rfl (free running)
    · rw [drives]
      rcases runPhase_cases kLeg (currentOf s.settings.rampCount l kLeg stepDistance).leg.top with h | h <;>
        rw [h] <;> rfl
    · rcases runPhase_cases kLeg (currentOf s.settings.rampCount l kLeg stepDistance).leg.top with h | h <;>
        simp [h]

theorem enterDwell_keeps (dwell : Nat) (drives : s.motion.phase.drives = true)
    (shaped : s.RunsShaped → Restable s.motion) : Keeps e s (s.enterDwell dwell) := by
  refine .trans (entered_keeps s (f := fun m =>
    { m with current := none, retreat := none, phaseTimer := some dwell }) (ph := .dwell)
    (.inr fun sound => ?_) le_rfl (.inr ⟨drives.symm, rfl, by simp⟩) (.inr (running_of_drives drives)))
    (dwellEnd_keeps _)
  obtain ⟨scene, pending, fault⟩ := shaped sound
  simp_all [MotionShaped, Phase.moves, Phase.timed]

theorem latchLegEnd_keeps (o : LegOutcome) : Keeps e s (s.latchLegEnd o) := by
  unfold State.latchLegEnd
  cases o
  · exact latch_keeps s _
  · exact (latch_keeps s _).trans (latch_keeps _ _)
  · exact (latch_keeps s _).trans (latch_keeps _ _)

@[simp] theorem latchLegEnd_motion (o : LegOutcome) : (s.latchLegEnd o).motion = s.motion := by
  cases o <;> rfl

/-- The completion of a soft stop, the programme having been dropped before. -/
theorem stopCompleted_keeps (cause : StopCause) (drives : s.motion.phase.drives = true) :
    Keeps e s (s.stopCompletes cause) :=
  stopCompletes_keeps s (f := id) cause drives rfl rfl le_rfl rfl id

theorem endLeg_keeps (c : CurrentLeg) (moves : s.motion.phase.moves = true) :
    Keeps e s (s.endLeg c) := by
  have drives := drives_of_moves moves
  have ended : Keeps e s ((s.onMotion fun m =>
      { m with lastEnded := some ⟨c.leg.tag, c.outcome⟩ }).latchLegEnd c.outcome) :=
    (onMotion_keeps s (.inr id) le_rfl (.inr ⟨rfl, rfl, id⟩) (.inr fun f => ⟨f, rfl⟩)).trans
      (latchLegEnd_keeps _ _)
  have phase : ((s.onMotion fun m =>
      { m with lastEnded := some ⟨c.leg.tag, c.outcome⟩ }).latchLegEnd c.outcome).motion.phase
        = s.motion.phase := by simp
  unfold State.endLeg
  dsimp only
  generalize (s.onMotion fun m =>
    { m with lastEnded := some ⟨c.leg.tag, c.outcome⟩ }).latchLegEnd c.outcome = u at ended phase
  rw [← phase] at moves drives
  refine ended.trans ?_
  split
  · exact stopCompleted_keeps u _ drives
  · next holding =>
    refine heldWithoutLeg_keeps u drives (.inr fun sound => ?_)
    obtain ⟨motion, -⟩ := (runsShaped_iff u).mp sound
    refine ⟨motion.restable (by simp [holding]) (by simp [holding]), ?_⟩
    obtain ⟨-, -, -, -, -, -, -, -, held, -⟩ := motion
    exact held (.inl holding)
  · next stopping holding =>
    have running : u.motion.phase = .accel ∨ u.motion.phase = .cruise ∨ u.motion.phase = .decel := by
      revert moves stopping holding; cases u.motion.phase <;> simp [Phase.moves]
    exact .ite (fun _ => flowJoin_keeps u _ _ running) fun _ => enterDwell_keeps u _ drives fun sound =>
      sound.restable stopping (running_of_drives drives)

theorem legEnd_keeps : Keeps e s s.legEnd := by
  unfold State.legEnd
  split
  · exact .ite (fun ⟨moves, _⟩ => endLeg_keeps s _ moves) fun _ => .refl s
  · exact .refl s

theorem retreatAtRest_keeps : Keeps e s s.retreatAtRest := by
  unfold State.retreatAtRest
  split
  · refine .ite (fun _ => .refl s) fun _ => ?_
    next c r current retreat =>
    split
    · next holding =>
      have drives : s.motion.phase.drives = true := by rw [holding]; rfl
      refine .ite (fun _ => endLeg_keeps s _ (by rw [holding]; rfl)) fun _ =>
        entered_keeps s (.inr fun sound => ?_) le_rfl (.inr ⟨drives.symm, rfl, by simp⟩)
          (.inr (running_of_drives drives))
      obtain ⟨motion, -⟩ := (runsShaped_iff s).mp sound
      obtain ⟨scene, pending, fault⟩ := motion.restable (by simp [holding]) (by simp [holding])
      obtain ⟨-, -, timer, -, -, -, -, -, held, -⟩ := motion
      exact motionShaped_held ⟨scene, pending, fault⟩ rfl (by simp)
        (by simpa [holding, Phase.timed] using timer) rfl (held (.inl holding))
    · next stopping =>
      exact .ite (fun _ => endLeg_keeps s _ (by rw [stopping]; rfl)) fun _ =>
        stopCompleted_keeps s _ (by rw [stopping]; rfl)
    · next decel =>
      exact .ite (fun _ => endLeg_keeps s _ (by rw [decel]; rfl)) fun _ => .refl s
    · exact .refl s
  · exact .refl s

/-! ## The profile operation -/

/-- What the descent and rise tests make of the motion (R34, R35). -/
structure StepMoved (c : CurrentLeg) (m n : MotionGenerator) : Prop where
  leg : ∃ d, n.current = some d ∧ d.kEff = c.kEff
  frame : n = { m with current := n.current, phase := n.phase }
  phase : n.phase = m.phase ∨ ((m.phase = .accel ∨ m.phase = .cruise)
    ∧ (n.phase = .accel ∨ n.phase = .cruise ∨ n.phase = .decel))

theorem mayRise_running (c : CurrentLeg) (h : s.mayRise c = true) :
    s.motion.phase = .accel ∨ s.motion.phase = .cruise := by
  unfold State.mayRise at h
  simp only [Bool.and_eq_true, Bool.or_eq_true, decide_eq_true_eq] at h
  obtain ⟨⟨⟨⟨running, -⟩, -⟩, -⟩, -⟩ := h
  exact running

theorem stepMoved_motion (c : CurrentLeg) : StepMoved c s.motion (s.stepMoved c).motion := by
  unfold State.stepMoved
  dsimp only
  split_ifs with low slows rises
  · refine ⟨⟨{ c with
      kLeg := descend s.settings.braking c.rem (c.exitStep.getD 0) c.kLeg, stepDistance := 0 }, ?_, rfl⟩, by simp, .inr ⟨slows, by simp⟩⟩
    rw [enterPhase_motion]; rfl
  · exact ⟨⟨_, rfl, rfl⟩, rfl, .inl rfl⟩
  · have runs : s.motion.phase = .accel ∨ s.motion.phase = .cruise :=
      mayRise_running s c rises
    refine ⟨⟨{ c with kLeg := c.kLeg + 1, stepDistance := 0 }, ?_, rfl⟩, by simp, .inr ⟨runs, ?_⟩⟩
    · rw [enterPhase_motion]; rfl
    rcases runPhase_cases (c.kLeg + 1) c.leg.top with h | h <;> simp [h]
  · exact ⟨⟨_, rfl, rfl⟩, rfl, .inl rfl⟩

theorem stepMoved_keeps (c : CurrentLeg) : Keeps (.shaped :: e) s (s.stepMoved c) := by
  have leg (d : CurrentLeg) : Keeps (.shaped :: e) s (s.onMotion fun m => { m with current := some d }) :=
    onMotion_keeps s (.inl (by simp)) le_rfl (.inr ⟨rfl, rfl, id⟩) (.inr fun f => ⟨f, rfl⟩)
  have enter (d : CurrentLeg) (ph : Phase) (runs : s.motion.phase = .accel ∨ s.motion.phase = .cruise)
      (drives : ph.drives = true) : Keeps (.shaped :: e) s
        ((s.onMotion fun m => { m with current := some d }).enterPhase ph) := by
    refine entered_keeps s (.inl (by simp)) le_rfl
      (.inr ⟨?_, rfl, fun f => absurd f (running_of_drives drives)⟩) (.inr ?_)
    · rw [drives]; rcases runs with h | h <;> rw [h] <;> rfl
    · rcases runs with h | h <;> simp [h]
  unfold State.stepMoved
  dsimp only
  refine .ite (fun _ => .ite (fun runs => enter _ _ runs rfl) fun _ => leg _) fun _ =>
    .ite (fun rises => ?_) fun _ => leg _
  refine enter _ _ ?_ (by rcases runPhase_cases (c.kLeg + 1) c.leg.top with h | h <;> rw [h] <;> rfl)
  exact mayRise_running s c rises

theorem latchApproach_kEff (c : CurrentLeg) : (s.latchApproach c).kEff = c.kEff := by
  unfold State.latchApproach; split <;> rfl

/-- A motion whose step has moved, with the effective step of the operation kept. -/
theorem stepMoved_shaped {m n : MotionGenerator} {c : CurrentLeg} {k : Nat} (f : Retreat → Retreat)
    (h : StepMoved c m n) (kEff : c.kEff = some k) (moves : m.phase.moves = true)
    (sound : MotionShaped m) :
    MotionShaped { n with retreat := n.retreat.map f, lastEff := some k } := by
  obtain ⟨⟨d, current, same⟩, frame, phase⟩ := h
  obtain ⟨leg, rest, timer, retreat, retreats, pending, fault, scene, held, free, last⟩ := sound
  rw [frame]
  rcases phase with phase | ⟨runs, phase⟩
  · simp_all [MotionShaped]
  · rcases runs with r | r <;> rcases phase with p | p | p <;>
      simp_all [MotionShaped, Phase.moves, Phase.timed]

theorem profileOf_keeps (c : CurrentLeg) (moves : s.motion.phase.moves = true) :
    Keeps e s (s.profileOf c) := by
  unfold State.profileOf
  dsimp only
  have planned (f : DriveUnit → DriveUnit) (enable : (f s.drive).enable = s.drive.enable)
      (brake : (f s.drive).brakeRelease = s.drive.brakeRelease) (d : CurrentLeg) (k : Nat)
      (g : Retreat → Retreat) (kEff : d.kEff = some k) :
      Keeps e s (((s.onDrive f).stepMoved d).onMotion fun m =>
        { m with retreat := m.retreat.map g, lastEff := some k }) := by
    have moved : Keeps (.shaped :: e) s ((s.onDrive f).stepMoved d) :=
      (onDrive_keeps s enable (by rw [brake]; exact id)).trans (stepMoved_keeps _ d)
    refine Keeps.patch (moved.trans (onMotion_keeps _ (.inl (by simp)) le_rfl (.inr ⟨rfl, rfl, id⟩)
      (.inr fun f => ⟨f, rfl⟩))) fun sound => ?_
    obtain ⟨motion, tt⟩ := (runsShaped_iff s).mp sound
    have same : ((s.onDrive f).stepMoved d).tt = s.tt := by
      unfold State.stepMoved
      dsimp only
      split_ifs <;> simp
    exact (runsShaped_iff _).mpr ⟨stepMoved_shaped g (stepMoved_motion (s.onDrive f) d) kEff moves motion,
      by simpa [same] using tt⟩
  exact planned _ rfl rfl _ _ _ ((latchApproach_kEff _ _).trans rfl)

theorem profile_keeps : Keeps e s s.profile := by
  have none : Keeps e s s.noWheels := onDrive_keeps s rfl id
  unfold State.profile
  split
  · exact .ite (fun moves => profileOf_keeps s _ moves) fun _ => none
  · exact none

/-! ## Holds -/

theorem retreatBegun_same (m : MotionGenerator) : m.retreatBegun =
    { m with retreat := m.retreatBegun.retreat, current := m.retreatBegun.current } := by
  unfold MotionGenerator.retreatBegun
  split <;> rfl

/-- A retreat begun for a leg: there is one now, and the leg's effective step stays. -/
theorem retreatBegun_spec {m : MotionGenerator} {c : CurrentLeg} (h : m.current = some c) :
    m.retreatBegun.retreat.isSome ∧ ∃ d, m.retreatBegun.current = some d ∧ d.kEff = c.kEff := by
  unfold MotionGenerator.retreatBegun
  cases hr : m.retreat <;> simp [h, hr, CurrentLeg.exitZeroed]

end

end Sys2Proof.Machine
end

section
/-! Holds, and what the Route Counter reports to the Motion Generator: what they keep. -/

namespace Sys2Proof.Machine

-- One theorem at a time: each waits for the kernel, and many waiting at once are many threads.
set_option Elab.async false

/-! ## Holds (R61 to R65) -/

/-- The motion of a leg for which a retreat begins: shaped in a phase that has retreats. -/
theorem retreatBegun_shaped {m : MotionGenerator} {ph : Phase} {c : CurrentLeg}
    (current : m.current = some c) (last : c.kEff = none ∨ c.kEff = m.lastEff)
    (timer : m.phaseTimer = none) (pending : m.pendingStop = none) (fault : m.fault = none)
    (scene : m.sceneTimer.isSome = m.holds.scene)
    (phase : ph = .decel ∧ m.holds.isEmpty = true ∨ ph = .holding ∧ m.holds.isEmpty = false) :
    MotionShaped { m.retreatBegun with phase := ph } := by
  obtain ⟨retreat, d, hd, kEff⟩ := retreatBegun_spec current
  rw [retreatBegun_same]
  rcases phase with ⟨rfl, h⟩ | ⟨rfl, h⟩ <;> simp_all [MotionShaped, Phase.moves, Phase.timed]

/-- Another hold reason set with its SCENE timer. -/
theorem MotionShaped.withHolds {m : MotionGenerator} (h : MotionShaped m) {x : Option Nat}
    {holds : HoldSet} (scene : x.isSome = holds.scene)
    (held : m.phase = .holding ∨ m.phase = .held → holds.isEmpty = false)
    (free : m.phase = .accel ∨ m.phase = .cruise ∨ m.phase = .decel → holds.isEmpty = true) :
    MotionShaped { m with sceneTimer := x, holds := holds } := by
  obtain ⟨leg, rest, timer, retreat, retreats, pending, fault, -, -, -, last⟩ := h
  exact ⟨leg, rest, timer, retreat, retreats, pending, fault, scene, held, free, last⟩

/-- The hold reason set and the SCENE timer at given values. -/
def State.withHolds (x : Option Nat) (holds : HoldSet) (s : State) : State :=
  s.onMotion fun m => { m with sceneTimer := x, holds := holds }

section
variable {e : List Part} (s : State)

theorem withHolds_keeps {x : Option Nat} {holds : HoldSet}
    (h : .shaped ∈ e ∨ (s.RunsShaped → MotionShaped { s.motion with sceneTimer := x, holds := holds })) :
    Keeps e s (s.withHolds x holds) :=
  onMotion_keeps s (h.imp_right fun k sound => (runsShaped_iff _).mpr
    ⟨k sound, ((runsShaped_iff s).mp sound).2⟩) le_rfl (.inr ⟨rfl, rfl, id⟩) (.inr fun f => ⟨f, rfl⟩)

/-- The first hold reason joins (R64), the SCENE timer following it. -/
theorem holdStart_keeps {x : Option Nat} {holds : HoldSet} (full : holds.isEmpty = false)
    (scene : s.RunsShaped → x.isSome = holds.scene) :
    Keeps e s (s.withHolds x holds).holdStart := by
  have retreats (running : s.motion.phase = .accel ∨ s.motion.phase = .cruise ∨ s.motion.phase = .decel) :
      Keeps e s (((s.withHolds x holds).onMotion (·.retreatBegun)).enterPhase .holding) := by
    have drives : s.motion.phase.drives = true := by rcases running with h | h | h <;> rw [h] <;> rfl
    have moves : s.motion.phase.moves = true := by rcases running with h | h | h <;> rw [h] <;> rfl
    refine entered_keeps s (f := fun m => ({ m with sceneTimer := x, holds := holds } :
      MotionGenerator).retreatBegun) (.inr fun sound => ?_) (by rw [retreatBegun_same])
      (.inr ⟨drives.symm, by rw [retreatBegun_same], by simp⟩) (.inr (running_of_drives drives))
    obtain ⟨motion, -⟩ := (runsShaped_iff s).mp sound
    obtain ⟨-, pending, fault⟩ := motion.restable
      (by rcases running with h | h | h <;> simp [h]) (running_of_drives drives)
    obtain ⟨leg, -, timer, -, -, -, -, -, -, -, last⟩ := motion
    obtain ⟨c, current⟩ := Option.isSome_iff_exists.mp (leg moves)
    exact retreatBegun_shaped (m := { s.motion with sceneTimer := x, holds := holds })
      current (last c current) (by simpa [untimed_of_moves moves] using timer) pending fault
      (scene sound) (.inr ⟨rfl, full⟩)
  have rests (drives : s.motion.phase.drives = true) (stopping : s.motion.phase ≠ .stopping) :
      Keeps e s (s.withHolds x holds).heldWithoutLeg := by
    refine entered_keeps s (f := fun m => { m with
      sceneTimer := x, holds := holds, current := none, retreat := none, phaseTimer := none })
      (.inr fun sound => ?_) le_rfl (.inr ⟨drives.symm, rfl, by simp⟩) (.inr (running_of_drives drives))
    obtain ⟨-, pending, fault⟩ := sound.restable stopping (running_of_drives drives)
    exact motionShaped_held ⟨scene sound, pending, fault⟩ rfl (by simp) rfl rfl full
  have elsewhere (h : ¬ (s.motion.phase = .accel ∨ s.motion.phase = .cruise ∨ s.motion.phase = .decel)) :
      Keeps e s (s.withHolds x holds) :=
    withHolds_keeps s (.inr fun sound => ((runsShaped_iff s).mp sound).1.withHolds (scene sound)
      (fun _ => full) fun running => absurd running h)
  unfold State.holdStart
  show Keeps e s (match s.motion.phase with
    | .accel | .cruise | .decel => ((s.withHolds x holds).onMotion (·.retreatBegun)).enterPhase .holding
    | .pre | .dwell => (s.withHolds x holds).heldWithoutLeg
    | .idle | .post | .holding | .held | .stopping | .faulted => s.withHolds x holds)
  match h : s.motion.phase with
  | .accel | .cruise | .decel => exact retreats (by simp [h])
  | .pre | .dwell => exact rests (by rw [h]; rfl) (by simp [h])
  | .idle | .post | .holding | .held | .stopping | .faulted => exact elsewhere (by simp [h])

/-- A hold reason joins the set, the SCENE timer following it (R61, R63). -/
theorem addHold_keeps {x : Option Nat} {f : HoldSet → HoldSet}
    (full : (f s.motion.holds).isEmpty = false)
    (scene : s.RunsShaped → x.isSome = (f s.motion.holds).scene) :
    Keeps e s ((s.withHolds x s.motion.holds).addHold f) := by
  refine .ite (fun _ => holdStart_keeps s full scene) fun later =>
    withHolds_keeps s (x := x) (holds := f s.motion.holds) (.inr fun sound => ?_)
  have held : s.motion.holds.isEmpty = false := by
    by_contra empty
    refine later ?_
    show (s.motion.holds.isEmpty && !(f s.motion.holds).isEmpty) = true
    rw [Bool.not_eq_false] at empty
    simp [full, empty]
  obtain ⟨motion, -⟩ := (runsShaped_iff s).mp sound
  refine motion.withHolds (scene sound) (fun _ => full) fun running => ?_
  obtain ⟨-, -, -, -, -, -, -, -, -, free, -⟩ := motion
  simp [free running] at held

/-- A held leg that resumes leaves a shaped motion. -/
theorem resumeLeg_shaped (c : CurrentLeg) (tt : TurnShaped s.tt) (r : Restable s.motion)
    (free : s.motion.holds.isEmpty = true) (timer : s.motion.phaseTimer = none) :
    (s.resumeLeg c).RunsShaped := by
  obtain ⟨scene, pending, fault⟩ := r
  rw [runsShaped_iff]
  unfold State.resumeLeg
  dsimp only
  rw [enterPhase_motion, enterPhase_tt]
  exact ⟨motionShaped_running ⟨scene, pending, fault⟩ (runPhase_cases _ _) rfl (.inl rfl) timer rfl free, tt⟩

/-- A held leg resumes (R65). -/
theorem resumeLeg_keeps (c : CurrentLeg) (drives : s.motion.phase.drives = true) :
    Keeps (.shaped :: e) s (s.resumeLeg c) := by
  unfold State.resumeLeg
  dsimp only
  refine .trans (clearFractions_keeps s) (entered_keeps _ (.inl (by simp)) le_rfl
    (.inr ⟨?_, rfl, ?_⟩) (.inr (running_of_drives drives)))
  · show _ = s.motion.phase.drives
    rw [drives]
    rcases runPhase_cases 0 c.leg.top with h | h <;> rw [h] <;> rfl
  · rcases runPhase_cases 0 c.leg.top with h | h <;> simp [h]

/-- The last hold reason leaves in HELD (R65). -/
theorem resume_keeps {x : Option Nat} {holds : HoldSet} (free : holds.isEmpty = true)
    (scene : s.RunsShaped → x.isSome = holds.scene) (held : s.motion.phase = .held)
    {t : State} (h : t = (s.withHolds x holds).enterPost
      ∨ t = ((s.withHolds x holds).latch .queueEmpty).enterPost
      ∨ (∃ c, t = (s.withHolds x holds).resumeLeg c)
      ∨ s.motion.queue.isEmpty = false ∧ t = (s.withHolds x holds).startFromRest) : Keeps e s t := by
  have drives : s.motion.phase.drives = true := by rw [held]; rfl
  have left : Keeps (.shaped :: e) s (s.withHolds x holds) := withHolds_keeps s (.inl (by simp))
  have rest (sound : s.RunsShaped) : Restable (s.withHolds x holds).motion := by
    obtain ⟨-, pending, fault⟩ := sound.restable (by simp [held]) (by simp [held])
    exact ⟨scene sound, pending, fault⟩
  have tt (sound : s.RunsShaped) : TurnShaped s.tt := ((runsShaped_iff s).mp sound).2
  rcases h with rfl | rfl | ⟨c, rfl⟩ | ⟨more, rfl⟩
  · exact (left.trans (enterPost_keeps _ drives (.inl (by simp)))).patch fun sound =>
      enterPost_shaped _ (tt sound) (rest sound)
  · exact ((left.trans (latch_keeps _ _)).trans (enterPost_keeps _ drives (.inl (by simp)))).patch
      fun sound => enterPost_shaped _ (tt sound) (rest sound)
  · refine (left.trans (resumeLeg_keeps _ c drives)).patch fun sound =>
      resumeLeg_shaped _ c (tt sound) (rest sound) free ?_
    obtain ⟨⟨-, -, timer, -⟩, -⟩ := (runsShaped_iff s).mp sound
    show s.motion.phaseTimer = none
    simpa [held, Phase.timed] using timer
  · obtain ⟨l, queue, hq⟩ : ∃ l rest, s.motion.queue = l :: rest := by
      cases h : s.motion.queue with
      | nil => simp [h] at more
      | cons l rest => exact ⟨l, rest, rfl⟩
    exact (left.trans (startFromRest_keeps _ drives (.inl (by simp)))).patch fun sound =>
      startFromRest_shaped _ hq (tt sound) (rest sound) free

/-- The last hold reason leaves (R65), the SCENE timer following it. -/
theorem holdEnd_keeps {x : Option Nat} {holds : HoldSet} (free : holds.isEmpty = true)
    (scene : s.RunsShaped → x.isSome = holds.scene) :
    Keeps e s (s.withHolds x holds).holdEnd := by
  have left : Keeps (.shaped :: e) s (s.withHolds x holds) := withHolds_keeps s (.inl (by simp))
  have elsewhere (h : ¬ (s.motion.phase = .holding ∨ s.motion.phase = .held)) :
      Keeps e s (s.withHolds x holds) :=
    withHolds_keeps s (.inr fun sound => ((runsShaped_iff s).mp sound).1.withHolds (scene sound)
      (fun held => absurd held h) fun _ => free)
  have fromHeld (held : s.motion.phase = .held) : Keeps e s
      (if (s.withHolds x holds).permit.state ≠ .granted then (s.withHolds x holds).enterPost
      else match (s.withHolds x holds).motion.current with
        | some c => (s.withHolds x holds).resumeLeg c
        | none => if (s.withHolds x holds).motion.queue.isEmpty then
            ((s.withHolds x holds).latch .queueEmpty).enterPost
          else (s.withHolds x holds).startFromRest) := by
    refine resume_keeps s free scene held ?_
    by_cases granted : (s.withHolds x holds).permit.state ≠ .granted
    · exact .inl (if_pos granted)
    rw [if_neg granted]
    split
    · exact .inr (.inr (.inl ⟨_, rfl⟩))
    · by_cases more : s.motion.queue.isEmpty = true
      · exact .inr (.inl (if_pos more))
      · exact .inr (.inr (.inr ⟨by simpa using more, if_neg more⟩))
  have fromHolding (holding : s.motion.phase = .holding) : Keeps e s
      (match s.motion.current with
        | some c => if c.seekTaken then (s.withHolds x holds).enterPhase .decel
            else (s.withHolds x holds).cancelRetreat c
        | none => s.withHolds x holds) := by
    have drives : s.motion.phase.drives = true := by rw [holding]; rfl
    have moves : s.motion.phase.moves = true := by rw [holding]; rfl
    split
    · next c current =>
      refine .ite (fun _ => ?_) fun _ => ?_
      · refine entered_keeps s (f := fun m => { m with sceneTimer := x, holds := holds })
          (.inr fun sound => ?_) le_rfl (.inr ⟨drives.symm, rfl, by simp⟩) (.inr (running_of_drives drives))
        have agree := scene sound
        obtain ⟨motion, -⟩ := (runsShaped_iff s).mp sound
        simp_all [MotionShaped, Phase.moves, Phase.timed]
      · have last (sound : s.RunsShaped) := ((runsShaped_iff s).mp sound).1
        unfold State.cancelRetreat
        dsimp only
        generalize min c.kLeg _ = k
        refine entered_keeps s (f := fun m => { m with
          sceneTimer := x, holds := holds, retreat := none, current := some { c with
            kLeg := k, stepDistance := if k < c.kLeg then 0 else c.stepDistance } })
          (.inr fun sound => ?_) le_rfl (.inr ⟨?_, rfl, ?_⟩) (.inr (running_of_drives drives))
        · obtain ⟨-, pending, fault⟩ := sound.restable (by simp [holding]) (by simp [holding])
          obtain ⟨-, -, timer, -, -, -, -, -, -, -, last⟩ := last sound
          exact motionShaped_running ⟨scene sound, pending, fault⟩ (runPhase_cases _ _) rfl
            (last c current) (by simpa [holding, Phase.timed] using timer) rfl free
        · rw [drives]; rcases runPhase_cases k c.leg.top with h | h <;> rw [h] <;> rfl
        · rcases runPhase_cases k c.leg.top with h | h <;> simp [h]
    · next gone =>
      refine withHolds_keeps s (.inr fun sound => ?_)
      obtain ⟨⟨leg, -⟩, -⟩ := (runsShaped_iff s).mp sound
      simp [gone] at leg
      simp [leg] at moves
  unfold State.holdEnd
  show Keeps e s (match s.motion.phase with
    | .held => _
    | .holding => _
    | _ => s.withHolds x holds)
  match h : s.motion.phase with
  | .held => exact fromHeld h
  | .holding => exact fromHolding h
  | .accel | .cruise | .decel | .pre | .dwell | .idle | .post | .stopping | .faulted =>
    exact elsewhere (by simp [h])

/-- A hold reason leaves the set, the SCENE timer following it (R62, R63). -/
theorem dropHold_keeps {x : Option Nat} {f : HoldSet → HoldSet}
    (fewer : s.motion.holds.isEmpty = true → (f s.motion.holds).isEmpty = true)
    (scene : s.RunsShaped → x.isSome = (f s.motion.holds).scene) :
    Keeps e s ((s.withHolds x s.motion.holds).dropHold f) := by
  refine .ite (fun last => holdEnd_keeps s ?_ scene) fun later =>
    withHolds_keeps s (x := x) (holds := f s.motion.holds) (.inr fun sound => ?_)
  · have h : (!s.motion.holds.isEmpty && (f s.motion.holds).isEmpty) = true := last
    simp only [Bool.and_eq_true] at h
    exact h.2
  obtain ⟨motion, -⟩ := (runsShaped_iff s).mp sound
  have kept : (f s.motion.holds).isEmpty = s.motion.holds.isEmpty := by
    cases before : s.motion.holds.isEmpty with
    | true => exact fewer before
    | false =>
      by_contra empty
      refine later ?_
      show (!s.motion.holds.isEmpty && (f s.motion.holds).isEmpty) = true
      simpa [before] using empty
  obtain ⟨-, -, -, -, -, -, -, -, held, free, -⟩ := id motion
  exact motion.withHolds (scene sound) (fun h => kept ▸ held h) fun h => kept ▸ free h

/-- A reason that is not SCENE joins the set. -/
theorem addReason_keeps {f : HoldSet → HoldSet} (full : (f s.motion.holds).isEmpty = false)
    (scene : (f s.motion.holds).scene = s.motion.holds.scene) : Keeps e s (s.addHold f) :=
  addHold_keeps s (x := s.motion.sceneTimer) full fun sound => by
    obtain ⟨⟨-, -, -, -, -, -, -, agree, -⟩, -⟩ := (runsShaped_iff s).mp sound
    rw [scene, agree]

/-- A reason that is not SCENE leaves the set. -/
theorem dropReason_keeps {f : HoldSet → HoldSet}
    (fewer : s.motion.holds.isEmpty = true → (f s.motion.holds).isEmpty = true)
    (scene : (f s.motion.holds).scene = s.motion.holds.scene) : Keeps e s (s.dropHold f) :=
  dropHold_keeps s (x := s.motion.sceneTimer) fewer fun sound => by
    obtain ⟨⟨-, -, -, -, -, -, -, agree, -⟩, -⟩ := (runsShaped_iff s).mp sound
    rw [scene, agree]

theorem dropScene_keeps : Keeps e s s.dropScene :=
  dropHold_keeps s (x := none) (by simp +contextual [HoldSet.isEmpty]) fun _ => rfl

theorem sceneHoldJudged_keeps (duration : Nat) {t : State} (h : s.sceneHoldJudged duration = .ok t) :
    Keeps e s t := by
  unfold State.sceneHoldJudged at h
  split at h <;> cases h
  exact addHold_keeps s (x := some duration) (by simp [HoldSet.isEmpty]) fun _ => rfl

theorem sceneExpiry_keeps : Keeps e s s.sceneExpiry :=
  .ite (fun _ => dropScene_keeps s) fun _ => .refl s

theorem releaseHoldOp_keeps (p : Port) (reason : Byte) : Keeps e s (s.releaseHoldOp p reason) := by
  unfold State.releaseHoldOp
  dsimp only
  split
  case h_2 | h_5 =>
    refine dropReason_keeps s (fun empty => ?_) rfl
    simp only [HoldSet.isEmpty, Bool.and_eq_true, Bool.not_eq_true'] at empty ⊢
    simp [empty]
  case h_7 => exact dropScene_keeps s
  all_goals exact refuse_keeps s _ _ _

/-! ## Reports of the Route Counter -/

theorem positionLoss_keeps : Keeps e s s.positionLoss := by
  unfold State.positionLoss
  split
  all_goals first
    | exact (softStop_keeps s _).trans (showStop_keeps _ _)
    | exact .refl s

/-- The phases in which a leg that the cues of a jump found running may be after them. -/
def Phase.runsOn (ph : Phase) : Prop :=
  ph = .accel ∨ ph = .cruise ∨ ph = .decel ∨ ph = .holding ∨ ph = .faulted

/-- The motion after its leg has taken its marker, its phase apart (R41). -/
def MotionGenerator.markerTaken (c : CurrentLeg) (m : MotionGenerator) : MotionGenerator :=
  ({ m with current := some { c with markerTaken := true, exitStep := some 0 } }).retreatBegun

theorem markerTaken_same (c : CurrentLeg) (m : MotionGenerator) : m.markerTaken c =
    { m with retreat := (m.markerTaken c).retreat, current := (m.markerTaken c).current } := by
  unfold MotionGenerator.markerTaken
  rw [retreatBegun_same]

/-- A leg that takes its marker leaves a shaped motion in DECEL and in HOLDING. -/
theorem markerTaken_shaped {m : MotionGenerator} (h : MotionShaped m) {c : CurrentLeg}
    (current : m.current = some c) {ph : Phase}
    (phase : (m.phase = .accel ∨ m.phase = .cruise ∨ m.phase = .decel) ∧ ph = .decel
      ∨ m.phase = .holding ∧ ph = .holding) :
    MotionShaped { m.markerTaken c with phase := ph } := by
  have moves : m.phase.moves = true := by rcases phase with ⟨r | r | r, -⟩ | ⟨r, -⟩ <;> rw [r] <;> rfl
  have stopping : m.phase ≠ .stopping := by rcases phase with ⟨r | r | r, -⟩ | ⟨r, -⟩ <;> simp [r]
  obtain ⟨agree, pending, fault⟩ := h.restable stopping (running_of_drives (drives_of_moves moves))
  obtain ⟨-, -, timer, -, -, -, -, -, held, free, last⟩ := h
  refine retreatBegun_shaped
    (m := { m with current := some { c with markerTaken := true, exitStep := some 0 } }) rfl
    (last c current) (by simpa [untimed_of_moves moves] using timer) pending fault agree ?_
  rcases phase with ⟨running, ph⟩ | ⟨holding, ph⟩
  · exact .inl ⟨ph, free running⟩
  · exact .inr ⟨ph, held (.inl holding)⟩

/-- A sought arrival (R41), in a phase that a running leg can have come to. -/
theorem soughtArrival_keeps (running : s.motion.phase.runsOn) : Keeps e s s.soughtArrival := by
  unfold State.soughtArrival
  split
  · exact .refl s
  next c current =>
  have taken (ph : Phase) (same : s.motion.phase = ph) (stays : ph = .decel ∨ ph = .holding ∨ ph = .faulted) :
      Keeps e s (s.onMotion (·.markerTaken c)) := by
    refine onMotion_keeps s (.inr fun sound => ?_) (by rw [markerTaken_same])
      (.inr ⟨by rw [markerTaken_same], by rw [markerTaken_same], by rw [markerTaken_same]; exact id⟩)
      (.inr fun f => by rw [markerTaken_same]; exact ⟨f, rfl⟩)
    obtain ⟨motion, tt⟩ := (runsShaped_iff s).mp sound
    refine (runsShaped_iff _).mpr ⟨?_, tt⟩
    have phase : (s.motion.markerTaken c).phase = ph := by rw [markerTaken_same]; exact same
    show MotionShaped (s.motion.markerTaken c)
    rw [show s.motion.markerTaken c = { s.motion.markerTaken c with phase := ph } by rw [← phase]]
    rcases stays with rfl | rfl | rfl
    · exact markerTaken_shaped motion current (.inl ⟨.inr (.inr same), rfl⟩)
    · exact markerTaken_shaped motion current (.inr ⟨same, rfl⟩)
    · obtain ⟨-, rest, -⟩ := motion
      simpa [same, Phase.moves] using rest (by simp [current])
  dsimp only
  refine .ite (fun slows => ?_) fun stays => ?_
  · have slows : s.motion.phase = .accel ∨ s.motion.phase = .cruise := by
      have phase : (s.motion.markerTaken c).phase = s.motion.phase := by rw [markerTaken_same]
      rw [← phase]; exact slows
    have drives : s.motion.phase.drives = true := by rcases slows with h | h <;> rw [h] <;> rfl
    refine entered_keeps s (f := (·.markerTaken c)) (.inr fun sound => ?_) (by rw [markerTaken_same])
      (.inr ⟨drives.symm, by rw [markerTaken_same], by simp⟩) (.inr (running_of_drives drives))
    exact markerTaken_shaped ((runsShaped_iff s).mp sound).1 current
      (.inl ⟨slows.elim .inl (.inr ∘ .inl), rfl⟩)
  · refine taken _ rfl ?_
    have phase : (s.motion.markerTaken c).phase = s.motion.phase := by rw [markerTaken_same]
    have stays : ¬ (s.motion.phase = .accel ∨ s.motion.phase = .cruise) := by rw [← phase]; exact stays
    rcases running with r | r | r | r | r
    · exact absurd (.inl r) stays
    · exact absurd (.inr r) stays
    · exact .inl r
    · exact .inr (.inl r)
    · exact .inr (.inr r)

theorem timersFall_keeps : Keeps e s s.timersFall := by
  refine (Keeps.trans (onMotion_keeps s (.inr fun sound => ?_) le_rfl (.inr ⟨rfl, rfl, id⟩)
    (.inr fun f => ⟨f, rfl⟩)) (onTurntable_keeps _ id (.inr fun sound => ?_) (.inr Iff.rfl))).trans
    (onRoute_keeps _ rfl rfl rfl)
  · obtain ⟨⟨leg, rest, timer, retreat, retreats, pending, fault, scene, held, free, last⟩, tt⟩ :=
      (runsShaped_iff s).mp sound
    exact (runsShaped_iff _).mpr ⟨⟨leg, rest, by simpa using timer, retreat, retreats, pending, fault,
      by simpa using scene, held, free, last⟩, tt⟩
  · obtain ⟨motion, run, timer, kind⟩ := (runsShaped_iff _).mp sound
    exact (runsShaped_iff _).mpr ⟨motion, run, by simpa using timer, kind⟩

end

end Sys2Proof.Machine
end

section
/-! Cues, markers and the route: what their operations keep. -/

namespace Sys2Proof.Machine

-- One theorem at a time: each waits for the kernel, and many waiting at once are many threads.
set_option Elab.async false

/-! ## The motion phase through reports and cues -/

section
variable (s : State)

/-- A loss of the permit leaves a motion at rest, stopping or faulted as it is (R72). -/
theorem permitLoss_motion (cause : LossCause)
    (rest : s.motion.phase = .idle ∨ s.motion.phase = .post ∨ s.motion.phase = .stopping
      ∨ s.motion.phase = .faulted) : (s.permitLoss cause).motion = s.motion := by
  unfold State.permitLoss
  split
  · rfl
  · rw [(turntablePermitLoss_outside _).same .motion]
    unfold State.motionPermitLoss
    rcases rest with h | h | h | h <;> simp [h]

theorem secondFault_motion : s.secondFault.motion =
    { s.motion with extraFaults := min 255 (s.motion.extraFaults + 1) } := by
  unfold State.secondFault
  rw [rederive_motion, (turntableStop_stopped _).motion, (cut_pulsed _).motion]
  rfl

/-- A first fault stops everything and records itself (R75). -/
theorem firstFault_motion (cause : FaultCause) : (s.firstFault cause).motion =
    { s.motion.programmeDropped with
      servoLatch := false, current := none, retreat := none, phaseTimer := none, pendingStop := none,
      phase := .faulted
      fault := some ⟨cause, s.route.position, s.motion.current.map (·.leg.tag)⟩ } := by
  have motion := (stopAll_stopped s).motion
  unfold State.firstFault
  dsimp only
  generalize s.stopAll = u at motion
  rw [(showStop_outside _ _).same .motion, permitLoss_motion _ _ (by simp), rederive_motion,
    State.latch_motion, enterPhase_motion, State.onMotion_motion, motion]

/-- A report leaves the motion FAULTED (R75, R76). -/
theorem report_phase (cause : FaultCause) : (s.report cause).motion.phase = .faulted := by
  unfold State.report
  split
  · next h => rw [secondFault_motion]; exact h
  · rw [firstFault_motion]

/-- What reports make of the phase: it stays, or it is FAULTED. -/
def PhaseReported (s t : State) : Prop :=
  t.motion.phase = s.motion.phase ∨ t.motion.phase = .faulted

theorem PhaseReported.trans {s t u : State} (h : PhaseReported s t) (k : PhaseReported t u) :
    PhaseReported s u := k.elim (fun k => h.imp k.trans k.trans) .inr

theorem PhaseReported.of_same {s t : State} (h : t.motion = s.motion) : PhaseReported s t :=
  .inl (by rw [h])

theorem reportConditions_phase : PhaseReported s s.reportConditions := by
  unfold State.reportConditions
  refine foldl_preserves (I := fun t => PhaseReported s t) (fun t i h => ?_) _ _ (.inl rfl)
  split
  · exact .inr (report_phase t _)
  · exact h

theorem rederiveReporting_phase : PhaseReported s s.rederiveReporting := by
  have same : PhaseReported s s.rederive := .of_same (rederive_motion s)
  unfold State.rederiveReporting
  dsimp only
  split
  · exact same.trans (reportConditions_phase _)
  · exact same

theorem ttPreEnd_motion : s.ttPreEnd.motion = s.motion := by
  unfold State.ttPreEnd
  split
  · split
    · split
      · rw [rederive_motion, beginTurn_motion]
      · rfl
    · rfl
  · rfl

theorem turnJudged_phase (target : BitVec 16) (mode : Byte) {t : State}
    (h : s.turnJudged target mode = .ok t) : PhaseReported s t := by
  unfold State.turnJudged at h
  split at h <;> [cases h; skip]
  iterate 5 (split at h <;> [cases h; skip])
  dsimp only at h
  split at h <;> cases h
  · exact .of_same (beginTurn_motion s _ _)
  · exact (rederiveReporting_phase (s.onTurntable _)).trans (.of_same (ttPreEnd_motion _))

end

/-! ## Frames of the show commands -/

section
variable (s : State)

theorem playJudged_outside (a : PlayBytes) {t : State} (h : s.playJudged a = .ok t) :
    SameBut [.records, .sound] s t := by
  unfold State.playJudged at h
  split at h
  · split at h <;> [cases h; skip]
    split at h <;> [cases h; skip]
    split at h <;> [cases h; skip]
    split at h <;> cases h
    exact startVoice_outside s _ _
  · cases h

theorem stopJudged_outside (voice step : Byte) {t : State} (h : s.stopJudged voice step = .ok t) :
    SameBut [.records, .sound] s t := by
  have set (v : Fin 6) (x : Voice) : SameBut [.records, .sound] s (s.setVoice v x) :=
    SameBut_mono (setVoice_outside s v x) (by decide)
  unfold State.stopJudged at h
  split at h
  · cases h
  · dsimp only at h
    split at h <;> cases h
    · exact SameBut_refl _ s
    · exact endVoice_outside s _ _
    · exact SameBut_ite (endVoice_outside s _ _) (set _ _)
    · exact SameBut_ite (endVoice_outside s _ _) (set _ _)

theorem gainJudged_outside (voice target step : Byte) {t : State}
    (h : s.gainJudged voice target step = .ok t) : SameBut [.sound] s t := by
  unfold State.gainJudged at h
  split at h
  · cases h
  · dsimp only at h
    split at h <;> cases h
    · exact setVoice_outside s _ _
    · exact setVoice_outside s _ _

theorem zoneJudged_outside (zone target step : Byte) {t : State}
    (h : s.zoneJudged zone target step = .ok t) : SameBut [.sound] s t := by
  unfold State.zoneJudged at h
  split at h <;> cases h
  exact onSound_outside s _

theorem startJudged_outside (channel : Byte) (b : PatternBytes) {t : State}
    (h : s.startJudged channel b = .ok t) : SameBut [.effects] s t := by
  unfold State.startJudged at h
  split at h
  · split at h
    · cases h; exact effectOff_outside s _
    · split at h <;> cases h
      exact startPattern_outside s _ _
  · cases h

theorem armJudged_outside (channel : Byte) (b : PatternBytes) {t : State}
    (h : s.armJudged channel b = .ok t) : SameBut [.effects] s t := by
  unfold State.armJudged at h
  split at h <;> cases h
  exact setChannel_outside s _ _

theorem effectAction_outside (channel operation : Byte) (b : PatternBytes) {t : State}
    (h : s.effectAction channel operation b = .ok t) : SameBut [.effects] s t := by
  unfold State.effectAction at h
  split at h
  · exact startJudged_outside s _ _ h
  · split at h
    · exact armJudged_outside s _ _ h
    · cases h

end

/-! ## Cues -/

section
variable {e : List Part} (s : State)

theorem startJudged_keeps (channel : Byte) (b : PatternBytes) {t : State}
    (h : s.startJudged channel b = .ok t) : Keeps e s t := by
  unfold State.startJudged at h
  split at h
  · split at h
    · cases h; exact effectOff_keeps s _
    · split at h <;> cases h
      exact startPattern_keeps s _ _
  · cases h

theorem armJudged_keeps (channel : Byte) (b : PatternBytes) {t : State}
    (h : s.armJudged channel b = .ok t) : Keeps e s t := by
  unfold State.armJudged at h
  split at h <;> cases h
  exact setChannel_same_keeps s id

theorem offJudged_keeps (channel : Byte) {t : State} (h : s.offJudged channel = .ok t) :
    Keeps e s t := by
  unfold State.offJudged at h
  split at h <;> cases h
  exact effectOff_keeps s _

theorem effectAction_keeps (channel operation : Byte) (b : PatternBytes) {t : State}
    (h : s.effectAction channel operation b = .ok t) : Keeps e s t := by
  unfold State.effectAction at h
  split at h
  · exact startJudged_keeps s _ _ h
  · split at h
    · exact armJudged_keeps s _ _ h
    · cases h

theorem logCue_keeps (i : Fin 64) (o : CueOutcome) (n : Option Nat) : Keeps e s (s.logCue i o n) := by
  refine onCues_keeps s fun bound => ?_
  unfold CueEngine.logged
  simp only [List.length_append, List.length_singleton]
  have : Config.logCapacity = 16 := rfl
  split
  · rw [List.length_drop]; omega
  · omega

theorem setSlot_keeps (i : Fin 64) (c : Option Cue) : Keeps e s (s.setSlot i c) := onCues_keeps s id

theorem actionJudged_keeps (a : CueAction) {t : State} (h : s.actionJudged a = .ok t) :
    Keeps e s t := by
  cases a with
  | play a => exact playJudged_keeps s a h
  | stop voice step => exact stopJudged_keeps s voice step h
  | gain voice target step => exact gainJudged_keeps s voice target step h
  | zone zone target step => exact zoneJudged_keeps s zone target step h
  | effect channel operation pattern => exact effectAction_keeps s channel operation pattern h
  | turn target mode => exact turnJudged_keeps s target mode h
  | sceneHold duration => exact sceneHoldJudged_keeps s duration.toNat h

theorem dispatch_keeps (i : Fin 64) (index : Nat) (a : CueAction) : Keeps e s (s.dispatch i index a) := by
  unfold State.dispatch
  split
  · next t h => exact actionJudged_keeps s a h
  · exact (logCue_keeps s i _ _).trans (latch_keeps _ _)

theorem dispatchAll_keeps (i : Fin 64) (n : Nat) (l : List CueAction) :
    Keeps e s (s.dispatchAll i n l) := by
  rw [dispatchAll_eq_foldl]
  exact .foldl (fun t (x : CueAction × Nat) => dispatch_keeps t i x.2 x.1) _ s

theorem fire_keeps (i : Fin 64) : Keeps e s (s.fire i) := by
  unfold State.fire
  split
  · exact .refl s
  · exact (((setSlot_keeps s i _).trans (logCue_keeps _ i _ _)).trans (latch_keeps _ _)).trans
      (dispatchAll_keeps _ i 0 _)

theorem miss_keeps (i : Fin 64) : Keeps e s (s.miss i) := by
  unfold State.miss
  split
  · exact .refl s
  · exact ((setSlot_keeps s i _).trans (logCue_keeps _ i _ _)).trans (latch_keeps _ _)

theorem sample_keeps (before after : Int) : Keeps e s (s.sample before after) := by
  unfold State.sample
  split
  · exact .refl s
  · exact .foldl fire_keeps _ s
  · exact .foldl miss_keeps _ s

theorem jumpCue_keeps (after : Int) (i : Fin 64) : Keeps e s (s.jumpCue after i) :=
  .ite (fun _ => miss_keeps s i) fun _ => fire_keeps s i

theorem jump_keeps (before after : Int) : Keeps e s (s.jump before after) := by
  refine .ite (fun _ => .refl s) fun _ => ?_
  split
  · exact .refl s
  · exact .foldl (fun t i => jumpCue_keeps t after i) _ s
  · exact .foldl miss_keeps _ s

theorem loadCueJudged_keeps (b : CueBytes) {t : State} (h : s.loadCueJudged b = .ok t) :
    Keeps e s t := by
  unfold State.loadCueJudged at h
  split at h <;> [cases h; skip]
  split at h
  · split at h <;> [cases h; skip]
    split at h <;> [cases h; skip]
    split at h <;> cases h
    exact setSlot_keeps s _ _
  · cases h

theorem deleteCueJudged_keeps (slot : Byte) {t : State} (h : s.deleteCueJudged slot = .ok t) :
    Keeps e s t := by
  unfold State.deleteCueJudged at h
  split at h <;> cases h
  exact setSlot_keeps s _ _

theorem fireCueJudged_keeps (slot : Byte) {t : State} (h : s.fireCueJudged slot = .ok t) :
    Keeps e s t := by
  unfold State.fireCueJudged at h
  split at h <;> [cases h; skip]
  split at h <;> [cases h; skip]
  split at h <;> cases h
  exact fire_keeps s _

theorem setEngine_keeps (x : EngineState) : Keeps e s (s.setEngine x) := onCues_keeps s id

theorem clearFired_keeps : Keeps e s s.clearFired := onCues_keeps s id

theorem rearm_keeps : Keeps e s s.rearm := by
  have cleared : Keeps e s s.clearFired := clearFired_keeps s
  unfold State.rearm
  generalize s.clearFired = u at cleared
  refine cleared.trans (onCues_keeps u fun bound => ?_)
  split <;> exact bound

theorem cueReset_keeps : Keeps e s s.cueReset := (clearFired_keeps s).trans (setEngine_keeps _ _)

theorem showReset_keeps : Keeps e s s.showReset :=
  ((cueReset_keeps s).trans (effectReset_keeps _)).trans (soundReset_keeps _)

end

/-! ## The phase through the cues of a jump -/

section
variable (s : State)

theorem PhaseReported.runsOn {s t : State} (h : PhaseReported s t) (k : s.motion.phase.runsOn) :
    t.motion.phase.runsOn := by
  rcases h with h | h
  · rw [h]; exact k
  · exact .inr (.inr (.inr (.inr h)))

theorem sceneHoldJudged_runsOn (duration : Nat) {t : State} (h : s.sceneHoldJudged duration = .ok t)
    (k : s.motion.phase.runsOn) : t.motion.phase.runsOn := by
  unfold State.sceneHoldJudged at h
  split at h <;> cases h
  unfold State.addHold
  dsimp only
  split
  · unfold State.holdStart
    rcases k with k | k | k | k | k <;> simp [k, Phase.runsOn]
  · exact k

theorem actionJudged_runsOn (a : CueAction) {t : State} (h : s.actionJudged a = .ok t)
    (k : s.motion.phase.runsOn) : t.motion.phase.runsOn := by
  have same {a : List Block} (f : SameBut a s t) (m : .motion ∉ a) : t.motion.phase.runsOn := by
    rw [f.same .motion m]; exact k
  cases a with
  | play a => exact same (playJudged_outside s a h) (by decide)
  | stop voice step => exact same (stopJudged_outside s voice step h) (by decide)
  | gain voice target step => exact same (gainJudged_outside s voice target step h) (by decide)
  | zone zone target step => exact same (zoneJudged_outside s zone target step h) (by decide)
  | effect channel operation pattern =>
    exact same (effectAction_outside s channel operation pattern h) (by decide)
  | turn target mode => exact (turnJudged_phase s target mode h).runsOn k
  | sceneHold duration => exact sceneHoldJudged_runsOn s duration.toNat h k

theorem dispatch_runsOn (i : Fin 64) (index : Nat) (a : CueAction) (k : s.motion.phase.runsOn) :
    (s.dispatch i index a).motion.phase.runsOn := by
  unfold State.dispatch
  split
  · next t h => exact actionJudged_runsOn s a h k
  · exact k

theorem fire_runsOn (i : Fin 64) (k : s.motion.phase.runsOn) : (s.fire i).motion.phase.runsOn := by
  unfold State.fire
  split
  · exact k
  · dsimp only
    rw [dispatchAll_eq_foldl]
    exact foldl_preserves (I := fun t : State => t.motion.phase.runsOn)
      (fun t x h => dispatch_runsOn t i x.2 x.1 h) _ _ k

theorem miss_runsOn (i : Fin 64) (k : s.motion.phase.runsOn) : (s.miss i).motion.phase.runsOn := by
  rw [(miss_outside s i).same .motion]; exact k

theorem jump_runsOn (before after : Int) (k : s.motion.phase.runsOn) :
    (s.jump before after).motion.phase.runsOn := by
  unfold State.jump
  split
  · exact k
  split
  · exact k
  · refine foldl_preserves (I := fun t : State => t.motion.phase.runsOn) (fun t i h => ?_) _ _ k
    unfold State.jumpCue
    split
    · exact miss_runsOn t i h
    · exact fire_runsOn t i h
  · exact foldl_preserves (I := fun t : State => t.motion.phase.runsOn) (fun t i h => miss_runsOn t i h) _ _ k

end

end Sys2Proof.Machine
end

section
/-! Encoders, markers and the motion tick: what their operations keep. -/

namespace Sys2Proof.Machine

-- One theorem at a time: each waits for the kernel, and many waiting at once are many threads.
set_option Elab.async false

section
variable {e : List Part} (s : State)

/-! ## Encoders (R1, R2) -/

/-- A test of encoders after a change that broke at most what the conditions of its axes are for. -/
theorem testedEncoders_keeps {t : State} {axes : List Axis}
    (h : Keeps e s (t.onRoute fun r =>
      { r with conditions := (t.overErrorLimit axes).foldl (fun c i => c.set i true) r.conditions })) :
    Keeps e s (t.testEncoders axes) :=
  .ite (fun _ => h.trans (.foldl (fun t _ => report_keeps t _) _ _)) fun _ => h

/-- The conditions newly due at a test are latched. -/
theorem conditions_latched {t : State} {axes : List Axis} {i : Axis} (tested : i ∈ axes)
    (reached : t.settings.encoderErrorLimit ≤ t.route.errors.get i) :
    ((t.overErrorLimit axes).foldl (fun c i => c.set i true) t.route.conditions).get i = true := by
  rw [foldl_set_get]
  cases latched : t.route.conditions.get i <;> simp [State.overErrorLimit, tested, reached, latched]

theorem encoderMoves_keeps (i : Axis) (a b : Bool) : Keeps e s (s.encoderMoves i a b) := by
  have seen : Keeps e s (s.onRoute fun r => { r with previous := r.previous.set i (some (a, b)) }) :=
    onRoute_keeps s rfl rfl rfl
  unfold State.encoderMoves
  dsimp only
  generalize (s.onRoute fun r => { r with previous := r.previous.set i (some (a, b)) }) = u at seen
  refine seen.trans ?_
  split
  · exact .refl u
  split
  · exact onRoute_keeps u rfl rfl rfl
  · refine testedEncoders_keeps u (.outside (onRoute_outside u fun r => { r.illegal i with
      conditions := ((u.onRoute (·.illegal i)).overErrorLimit [i]).foldl (fun c i => c.set i true)
        (r.illegal i).conditions }) fun x touched => ?_)
    cases x <;> simp [Part.blocks] at touched
    · exact .inr id
    · refine .inr fun ⟨fitted, limit, force, lengths⟩ => ⟨fitted, limit, fun j reached => ?_, lengths⟩
      by_cases own : j = i
      · subst own
        exact conditions_latched (t := u.onRoute (·.illegal j)) (by simp) reached
      · have same : ((u.route.illegal i).errors.get j) = u.route.errors.get j := by
          simp [RouteCounter.illegal, own]
        have was : u.route.conditions.get j = true := force j (by rw [← same]; exact reached)
        show (((u.onRoute (·.illegal i)).overErrorLimit [i]).foldl (fun c i => c.set i true)
          u.route.conditions).get j = true
        rw [foldl_set_get, was, Bool.or_true]

/-! ## Markers (R11 to R14) -/

theorem recordMarker_keeps (id : Nat) (error : Int) : Keeps e s (s.recordMarker id error) :=
  onRoute_keeps s rfl rfl rfl

theorem found_keeps : Keeps e s (s.onRoute (·.found)) := onRoute_keeps s rfl rfl rfl

theorem align_keeps (position : Int) : Keeps e s (s.align position) := by
  have set : Keeps e s (s.onRoute fun r => { r with position := position }) :=
    onRoute_keeps s rfl rfl rfl
  exact .ite (fun _ => set) fun _ => set.trans (jump_keeps _ _ _)

theorem acceptMarker_keeps (m : Marker) (error : Int) : Keeps e s (s.acceptMarker m error) := by
  have aligned : Keeps e s (match m.kind with | .correct => s.align m.position | .check => s) := by
    split
    · exact align_keeps s _
    · exact .refl s
  exact ((aligned.trans (found_keeps _)).trans (recordMarker_keeps _ _ _)).trans (latch_keeps _ _)

theorem mismatchMarker_keeps (m : Marker) (error : Int) : Keeps e s (s.mismatchMarker m error) := by
  have counted : Keeps e s ((State.recordMarker m.id error (s.onRoute fun r =>
      { r with mismatches := min 7 (r.mismatches + 1) })).latch .markerMismatch) :=
    ((onRoute_keeps s rfl rfl rfl).trans (recordMarker_keeps _ _ _)).trans (latch_keeps _ _)
  exact .ite (fun _ => ((counted.trans (onRoute_keeps _ rfl rfl rfl)).trans (latch_keeps _ _)).trans
    (positionLoss_keeps _)) fun _ => counted

theorem knownMarker_keeps (m : Marker) : Keeps e s (s.knownMarker m) :=
  .ite (fun _ => acceptMarker_keeps s m _) fun _ => mismatchMarker_keeps s m _

theorem align_runsOn (position : Int) (k : s.motion.phase.runsOn) :
    (s.align position).motion.phase.runsOn := by
  unfold State.align
  dsimp only
  split
  · exact k
  · exact jump_runsOn _ _ _ k

theorem soughtMarker_keeps (m : Marker) (action : SeekAction) (running : s.motion.phase.runsOn) :
    Keeps e s (s.soughtMarker m action) := by
  unfold State.soughtMarker
  dsimp only
  cases action with
  | align =>
    exact ((((align_keeps s _).trans (found_keeps _)).trans (recordMarker_keeps _ _ _)).trans
      (latch_keeps _ _)).trans (soughtArrival_keeps _ (align_runsOn s m.position running))
  | mark =>
    exact (((onRoute_keeps s rfl rfl rfl).trans (recordMarker_keeps _ _ _)).trans
      (latch_keeps _ _)).trans (soughtArrival_keeps _ running)

/-- A leg seeks a marker only while it runs (R11). -/
theorem soughtAction_running {id : Nat} {action : SeekAction} (h : s.soughtAction id = some action) :
    s.motion.phase = .accel ∨ s.motion.phase = .cruise ∨ s.motion.phase = .decel := by
  unfold State.soughtAction at h
  split at h
  · cases h
  · dsimp only at h
    split at h
    · split at h
      · next seeks => exact seeks.2.1
      · cases h
    · cases h

theorem arrival_keeps (id : Nat) : Keeps e s (s.arrival id) := by
  unfold State.arrival
  split
  · exact latch_keeps s _
  · split
    · next sought =>
      refine soughtMarker_keeps s _ _ ?_
      rcases soughtAction_running s sought with h | h | h
      · exact .inl h
      · exact .inr (.inl h)
      · exact .inr (.inr (.inl h))
    · exact knownMarker_keeps s _

theorem setFramer_keeps (f : Option PendingByte) : Keeps e s (s.setFramer f) :=
  onRoute_keeps s rfl rfl rfl

theorem markerByte_keeps (b : Byte) (stopHigh : Bool) : Keeps e s (s.markerByte b stopHigh) := by
  refine .ite (fun _ => setFramer_keeps s _) fun _ => ?_
  dsimp only
  split
  · exact setFramer_keeps s _
  · exact .ite (fun _ => (setFramer_keeps s _).trans (arrival_keeps _ _)) fun _ => setFramer_keeps s _

theorem gapStops_keeps : Keeps e s s.gapStops := onRoute_keeps s rfl rfl rfl

theorem gapExpires_keeps : Keeps e s s.gapExpires :=
  .ite (fun _ => setFramer_keeps s _) fun _ => .refl s

/-! ## The marker table (R9, R10) -/

/-- An entry that replaces one with its id leaves the table as long as it was. -/
theorem insertMarker_length_of_mem {m : Marker} {l : List Marker}
    (sorted : (l.map (·.id)).Pairwise (· < ·)) (mem : m.id ∈ l.map (·.id)) :
    (insertMarker m l).length = l.length := by
  induction l with
  | nil => simp at mem
  | cons x l ih =>
    obtain ⟨first, sorted⟩ := List.pairwise_cons.mp sorted
    unfold insertMarker
    split
    · next before =>
      rcases List.mem_cons.mp mem with same | later
      · exact absurd same before.ne
      · exact absurd (first _ later) before.asymm
    · split
      · rfl
      · next other =>
        have later : m.id ∈ l.map (·.id) := (List.mem_cons.mp mem).resolve_left other
        simp [ih sorted later]

theorem loadMarkerJudged_keeps (id : Byte) (position : BitVec 32) (tolerance : BitVec 16) (kind : Byte)
    {t : State} (h : s.loadMarkerJudged id position tolerance kind = .ok t) : Keeps e s t := by
  unfold State.loadMarkerJudged at h
  split at h
  · next k _ _ =>
    split at h <;> cases h
    next room =>
    refine onRoute_markers_keeps s fun size sorted => ⟨?_, insertMarker_sorted sorted⟩
    by_cases mem : id.toNat ∈ s.route.markers.map (·.id)
    · rw [insertMarker_length_of_mem sorted mem]; exact size
    · have added := insertMarker_length ⟨id.toNat, position.toInt, tolerance.toNat, k⟩ s.route.markers
      have absent : (s.route.entry id.toNat).isNone = true := by
        simp only [RouteCounter.entry, Option.isNone_iff_eq_none, List.find?_eq_none, decide_eq_true_eq]
        exact fun x hx same => mem (List.mem_map.mpr ⟨x, hx, same⟩)
      have less : ¬ Config.markerCapacity ≤ s.route.markers.length := fun full => room ⟨absent, full⟩
      omega
  · cases h

theorem deleteMarkerJudged_keeps (id : Byte) {t : State} (h : s.deleteMarkerJudged id = .ok t) :
    Keeps e s t := by
  unfold State.deleteMarkerJudged at h
  split at h <;> cases h
  exact onRoute_markers_keeps s fun size sorted =>
    ⟨(List.length_filter_le _ _).trans size, sorted.sublist (List.filter_sublist.map _)⟩

theorem clearMarkersJudged_keeps {t : State} (h : s.clearMarkersJudged = .ok t) : Keeps e s t := by
  unfold State.clearMarkersJudged at h
  split at h <;> cases h
  exact onRoute_markers_keeps s fun _ _ => ⟨Nat.zero_le _, List.Pairwise.nil⟩

theorem zeroRouteJudged_keeps {t : State} (h : s.zeroRouteJudged = .ok t) : Keeps e s t := by
  unfold State.zeroRouteJudged at h
  split at h <;> cases h
  exact (onRoute_keeps s rfl rfl rfl).trans (rearm_keeps _)

/-! ## The motion tick -/

theorem rangeLimit_keeps : Keeps e s s.rangeLimit := by
  unfold State.rangeLimit
  dsimp only
  refine .trans (.ite (fun _ => .refl s) fun _ => ?_) (report_keeps _ _)
  exact (onRoute_keeps s rfl rfl rfl).trans (latch_keeps _ _)

theorem routeTick_keeps (left right : Int) : Keeps e s (s.routeTick left right) := by
  unfold State.routeTick
  dsimp only
  have moved : Keeps e s (s.onRoute fun r => { r with
      position := clampInt Config.positionMin Config.positionMax (s.route.position + left + right) }) :=
    onRoute_keeps s rfl rfl rfl
  exact .trans (.ite (fun _ => moved.trans (rangeLimit_keeps _)) fun _ => moved) (sample_keeps _ _ _)

theorem measuredBy_same (x : PerAxis Int) (d : DriveUnit) : (d.measuredBy x).enable = d.enable
    ∧ (d.measuredBy x).brakeRelease = d.brakeRelease := by
  unfold DriveUnit.measuredBy
  split <;> exact ⟨rfl, rfl⟩

theorem driveChecks_keeps : Keeps e s s.driveChecks :=
  .ite (fun _ => reports_keeps s _) fun _ => .refl s

theorem tickClose_keeps : Keeps e s s.tickClose := by
  have cleared : Keeps e s (s.onRoute fun r => { r with delta := ⟨0, 0, 0⟩ }) :=
    onRoute_keeps s rfl rfl rfl
  unfold State.tickClose
  dsimp only
  have routed := cleared.trans (routeTick_keeps _ s.route.delta.left s.route.delta.right)
  generalize (s.onRoute fun r => { r with delta := ⟨0, 0, 0⟩ }).routeTick _ _ = u at routed
  obtain ⟨enable, brake⟩ := measuredBy_same s.route.delta u.drive
  exact ((routed.trans (onDrive_keeps u enable (by rw [brake]; exact id))).trans
    (turntableClose_keeps _ _)).trans (driveChecks_keeps _)

theorem settleMotion_keeps : Keeps e s s.settleMotion := by
  have legs := (((((gapExpires_keeps (e := e) s).trans (legEnd_keeps _)).trans
    (retreatAtRest_keeps _)).trans (preEnd_keeps _)).trans (dwellEnd_keeps _)).trans
    (postEnd_keeps _)
  have turns := ((((legs.trans (sceneExpiry_keeps _)).trans (ttPreEnd_keeps _)).trans
    (turnEnd_keeps _)).trans (turnRetreatAtRest_keeps _)).trans (homingLimit_keeps _)
  have seats := (turns.trans (.foldl seatEnds_keeps allSeats _)).trans (concurTimeout_keeps _)
  exact (seats.trans (consentExpired_keeps _)).trans
    (.foldl (fun t v => fadeEnd_keeps t v) allVoices _)

theorem tickEnded_keeps : Keeps e s (s.onDrive (·.tickEnded)) := onDrive_keeps s rfl id

theorem tick_keeps (pins : Pins) (ends : Ends) : Keeps e s (s.tick pins ends) := by
  have begun := ((settleMotion_keeps (e := e) s).trans (withPins_keeps _ pins)).trans
    (tickEnded_keeps _)
  have closed := ((begun.trans (timersFall_keeps _)).trans (tickClose_keeps _)).trans (profile_keeps _)
  have done := (((closed.trans (.foldl sampleSeat_keeps allSeats _)).trans (permitTick_keeps _)).trans
    (soundTick_keeps _)).trans (turntableTick_keeps _)
  exact .ite (fun _ => done.trans (settleMotion_keeps _)) fun _ => done

end

end Sys2Proof.Machine
end

section
/-! Writes of settings: what they keep. -/

namespace Sys2Proof.Machine

-- One theorem at a time: each waits for the kernel, and many waiting at once are many threads.
set_option Elab.async false

/-! ## Ramps (R23, R83) -/

/-- Rates that rise over the first `n` steps, step by step. -/
theorem increasing_iff (rate : Nat → Nat) (n : Nat) :
    increasing rate n = true ↔ ∀ k, k + 1 < n → rate k < rate (k + 1) := by
  induction n with
  | zero => simp [increasing]
  | succ n ih =>
    cases n with
    | zero => simp [increasing]
    | succ n =>
      simp only [increasing, Bool.and_eq_true, decide_eq_true_eq, ih]
      refine ⟨fun ⟨h, last⟩ k hk => ?_, fun h => ⟨fun k hk => h k (by omega), h n (by omega)⟩⟩
      rcases Nat.lt_or_ge (k + 1) (n + 1) with before | after
      · exact h k before
      · obtain rfl : k = n := by omega
        exact last

/-- A rate put in its order keeps the rates rising. -/
theorem increasing_update {rate new : Nat → Nat} {n k : Nat} (rising : increasing rate n = true)
    (other : ∀ j, j ≠ k → new j = rate j) (order : k < n → inOrder rate n k (new k) = true) :
    increasing new n = true := by
  rw [increasing_iff] at rising ⊢
  intro j hj
  by_cases own : j = k
  · subst own
    have h := order (by omega)
    simp only [inOrder, Bool.and_eq_true, Bool.or_eq_true, decide_eq_true_eq, Bool.not_eq_true',
      decide_eq_false_iff_not] at h
    rw [other (j + 1) (by omega)]
    exact h.2.resolve_left (not_not.mpr hj)
  · by_cases next : j + 1 = k
    · subst next
      have h := order hj
      simp only [inOrder, Bool.and_eq_true, Bool.or_eq_true, decide_eq_true_eq] at h
      rw [other j (by omega)]
      exact h.1.resolve_left (by omega)
    · rw [other j own, other (j + 1) next]
      exact rising j hj

@[simp] theorem rampStepOf_get {n : Nat} (v : Vector RampStep n) (k : Fin n) : rampStepOf v k = v[k]'k.isLt := by
  simp [rampStepOf]

theorem rampStepOf_set {n : Nat} (v : Vector RampStep n) (k : Fin n) (x : RampStep) (j : Nat) :
    rampStepOf (v.set k x k.isLt) j = if j = k then x else rampStepOf v j := by
  unfold rampStepOf
  by_cases h : j = k
  · subst h; simp
  · rw [if_neg h, Vector.getElem?_set_ne _ (Ne.symm h)]

section
variable {e : List Part} (s : State)

/-! ## Changes of the settings -/

/-- A change of the settings that moves neither the ramps nor a value that is in force, its order kept. -/
theorem onSettings_keeps {f : Settings → Settings} (settings : .settings ∈ e)
    (rising : s.RampsRising → (s.onSettings f).RampsRising)
    (force : s.SettingsInForce → (s.onSettings f).SettingsInForce)
    (pairs : (f s.settings).exclusivePairMask = s.settings.exclusivePairMask) :
    Keeps e s (s.onSettings f) := by
  refine .outside (onSettings_outside s f) fun x touched => ?_
  cases x <;> simp [Part.blocks] at touched
  · exact .inr rising
  · exact .inr force
  · refine .inr ?_
    simp only [Part.kept, State.PairsExclusive, State.exclusive, State.onSettings_settings, pairs]
    exact id
  · exact .inl settings

/-- A port's mask and ATTN, or its watch set. -/
theorem onPort_masks_keeps {p : Port} {f : PortState → PortState} (settings : .settings ∈ e)
    (framing : ∀ x, (f x).framing = x.framing) (sound : ∀ x : PortState, x.Sound → (f x).Sound) :
    Keeps e s (s.onPort p f) := by
  have frame : SameBut [.records, .masks] s (s.onPort p f) := by
    intro b
    cases b <;> simp [Block.same]
    intro q; split <;> simp [framing]
  refine .outside frame fun x touched => ?_
  cases x <;> simp [Part.blocks] at touched
  · refine .inr fun all q => ?_
    rw [State.onPort_ports, PerPort_get_modify]
    split
    · exact sound _ (all q)
    · exact all q
  · exact .inl settings

/-! ### Counts per revolution (R81) -/

theorem storeCounts_keeps (v : Nat) (settings : .settings ∈ e) (positive : 0 < v)
    (idle : s.tt.phase = .idle) : Keeps e s (s.storeCounts v) := by
  have stored : Keeps (.rising :: e) s (s.onSettings fun x => { x with countsPerRevolution := v }) := by
    refine .outside (onSettings_outside s _) fun x touched => ?_
    cases x <;> simp [Part.blocks] at touched
    · exact .inl (by simp)
    · exact .inr id
    · exact .inr id
    · exact .inl (List.mem_cons_of_mem _ settings)
  refine Keeps.patch (stored.trans (onTurntable_keeps _ (fun _ => positive) (.inr fun sound => ?_)
    (.inr Iff.rfl))) fun ⟨wheels, table, _⟩ => ⟨wheels, table, positive⟩
  obtain ⟨motion, run, timer, -⟩ := (runsShaped_iff _).mp sound
  refine (runsShaped_iff _).mpr ⟨motion, run, timer, fun r hr => ?_⟩
  have gone : ¬ s.tt.run.isSome := by
    rw [show s.tt.run.isSome ↔ s.tt.phase ≠ .idle from run]; simp [idle]
  have hr : s.tt.run = some r := hr
  simp [hr] at gone

/-! ### The encoder error limit (R2) -/

theorem storeEncoderLimit_keeps (v : Nat) (settings : .settings ∈ e) (positive : 1 ≤ v) :
    Keeps e s (s.storeEncoderLimit v) := by
  refine testedEncoders_keeps s ?_
  refine .outside (a := [.settings, .route])
    (SameBut_seq (onSettings_outside s _) (onRoute_outside _ _)) fun x touched => ?_
  cases x <;> simp [Part.blocks] at touched
  · exact .inr id
  · exact .inr id
  · refine .inr fun ⟨fitted, _, _, lengths⟩ => ⟨fitted, positive, fun i reached => ?_, lengths⟩
    exact conditions_latched (t := s.onSettings fun x => { x with encoderErrorLimit := v })
      (by cases i <;> decide) reached
  · exact .inr id
  · exact .inl settings

/-! ### The exclusive pair mask (R160) -/

/-- Whether both channels of a pair are active. -/
def State.bothActive (s : State) (p : Fin 6) : Prop :=
  (s.channel (lowerOf p)).state.active = true ∧ (s.channel (upperOf p)).state.active = true

/-- A channel that is active after the mask's effect on a pair was so before. -/
theorem pairMasked_active (old : BitVec 6) (p : Fin 6) (c : Fin 12)
    (h : ((s.pairMasked old p).channel c).state.active = true) : (s.channel c).state.active = true := by
  unfold State.pairMasked at h
  dsimp only at h
  split_ifs at h with one both two
  · unfold State.effectOff at h
    split at h
    · rw [State.channel_setChannel] at h
      split at h
      · cases h
      · exact h
    · exact h
  · exact h
  · exact h
  · exact h

/-- A pair newly exclusive has one of its channels off. -/
theorem pairMasked_newly (old : BitVec 6) (p : Fin 6) (was : old.getLsbD p = false)
    (now : s.exclusive p = true) : ¬ (s.pairMasked old p).bothActive p := by
  unfold State.pairMasked
  dsimp only
  rw [was, now]
  simp only [Bool.not_false, Bool.and_true, if_true]
  split
  · exact fun ⟨_, upper⟩ => by rw [effectOff_inactive] at upper; cases upper
  · next h => exact fun ⟨lower, upper⟩ => h (by rw [lower, upper]; rfl)

theorem pairMasked_outside (old : BitVec 6) (p : Fin 6) :
    SameBut [.effects] s (s.pairMasked old p) :=
  SameBut_ite (SameBut_ite (effectOff_outside _ _) (SameBut_refl _ _))
    (SameBut_ite (onEffects_outside _ _) (SameBut_refl _ _))

theorem pairMasked_keeps (old : BitVec 6) (p : Fin 6) : Keeps (.pairs :: e) s (s.pairMasked old p) :=
  .outside (pairMasked_outside s old p) fun x touched => by
    cases x <;> simp [Part.blocks] at touched
    exact .inl (by simp)

theorem pairsMasked_exclusive (old : BitVec 6) (l : List (Fin 6))
    (kept : ∀ p : Fin 6, old.getLsbD p = true → s.exclusive p = true → ¬ s.bothActive p) (p : Fin 6)
    (listed : p ∈ l) (now : s.exclusive p = true) : ¬ (l.foldl (State.pairMasked old) s).bothActive p := by
  have fewer (q : Fin 6) (t : State) : (t.pairMasked old q).bothActive p → t.bothActive p :=
    fun ⟨lower, upper⟩ => ⟨pairMasked_active t old q _ lower, pairMasked_active t old q _ upper⟩
  have stays (l : List (Fin 6)) (t : State) (h : ¬ t.bothActive p) :
      ¬ (l.foldl (State.pairMasked old) t).bothActive p :=
    foldl_preserves (I := fun t : State => ¬ t.bothActive p) (fun t q h k => h (fewer q t k)) l t h
  by_cases was : old.getLsbD p = true
  · exact stays l s (kept p was now)
  · have mask (q : Fin 6) (t : State) : (t.pairMasked old q).exclusive p = t.exclusive p := by
      rw [State.exclusive, (pairMasked_outside t old q).same .settings]; rfl
    clear kept
    induction l generalizing s with
    | nil => cases listed
    | cons q l ih =>
      rw [List.foldl_cons]
      by_cases own : p = q
      · subst own
        exact stays l _ (pairMasked_newly s old p (by simpa using was) now)
      · exact ih _ ((List.mem_cons.mp listed).resolve_left own) (by rw [mask]; exact now)

theorem mem_allPairs (p : Fin 6) : p ∈ allPairs := by revert p; decide

theorem storePairMask_keeps (v : Nat) (settings : .settings ∈ e) : Keeps e s (s.storePairMask v) := by
  have stored : Keeps (.pairs :: e) s
      (s.onSettings fun x => { x with exclusivePairMask := BitVec.ofNat 6 v }) := by
    refine .outside (onSettings_outside s _) fun x touched => ?_
    cases x <;> simp [Part.blocks] at touched
    · exact .inr id
    · exact .inr id
    · exact .inl (by simp)
    · exact .inl (List.mem_cons_of_mem _ settings)
  have kept (exclusive : s.PairsExclusive) (p : Fin 6) (was : s.settings.exclusivePairMask.getLsbD p = true) :
      ¬ (s.onSettings fun x => { x with exclusivePairMask := BitVec.ofNat 6 v }).bothActive p :=
    exclusive p was
  unfold State.storePairMask
  dsimp only
  generalize (s.onSettings fun x => { x with exclusivePairMask := BitVec.ofNat 6 v }) = u at stored kept
  generalize s.settings.exclusivePairMask = old at kept
  refine (stored.trans (.foldl (fun t p => pairMasked_keeps t old p) _ _)).patch fun exclusive p now => ?_
  have frame := SameBut_foldl (fun t p => pairMasked_outside t old p) allPairs u
  refine pairsMasked_exclusive u old allPairs (fun q was _ => kept exclusive q was) p
    (mem_allPairs p) ?_
  rw [State.exclusive, ← frame.same .settings]
  exact now

/-! ### The fitted seat count (R94) -/

/-- The part of a write of the fitted seat count for one seat. -/
def State.refitSeat (count : Nat) (s : State) (i : Fin 8) : State :=
  if i.val < count then
    if s.fitted i then s else s.seatUpdate i ((s.seat i).refitted .isOpen)
  else if s.fitted i then s.seatUpdate i ((s.seat i).refitted .notFitted) else s

theorem refit_eq (count : Nat) : s.refit count =
    allSeats.foldl (State.refitSeat count) (s.onSettings fun x => { x with fittedSeatCount := count }) :=
  rfl

/-- The record of a seat after a write of the fitted seat count (R94, R104). -/
def Seat.recounted (count : Nat) (i : Fin 8) (x : Seat) : Seat :=
  if (x.state != .notFitted) = decide (i.val < count) then x
  else x.counted (x.refitted (if i.val < count then .isOpen else .notFitted))

theorem refitSeat_seat (count : Nat) (i j : Fin 8) : (s.refitSeat count i).seat j =
    if j = i then (s.seat i).recounted count i else s.seat j := by
  unfold State.refitSeat Seat.recounted State.fitted
  by_cases below : i.val < count <;> cases fitted : ((s.seat i).state != .notFitted) <;>
    simp only [below, if_true, if_false, decide_true, decide_false, seatUpdate_seat, reduceCtorEq,
      Bool.false_eq_true]
  all_goals split <;> simp_all

theorem refitSeat_free (count : Nat) (i : Fin 8) (h : s.permit.state = .noPermit) :
    SameBut [.records, .seats] s (s.refitSeat count i) :=
  SameBut_ite (SameBut_ite (SameBut_refl _ _) (seatUpdate_free s i _ h))
    (SameBut_ite (seatUpdate_free s i _ h) (SameBut_refl _ _))

/-- Without a permit, what a write of the count does to the seats touches them and the ports' records
alone. -/
theorem refitSeats_free (count : Nat) (h : s.permit.state = .noPermit) :
    SameBut [.records, .seats] s (allSeats.foldl (State.refitSeat count) s) := by
  generalize allSeats = l
  induction l generalizing s with
  | nil => exact SameBut_refl _ s
  | cons i l ih =>
    have one := refitSeat_free s count i h
    exact SameBut_seq one (ih _ (by rw [one.same .permit]; exact h))

theorem refit_seat (count : Nat) (h : s.permit.state = .noPermit) (j : Fin 8) :
    (s.refit count).seat j = (s.seat j).recounted count j := by
  have seat : (s.onSettings fun x => { x with fittedSeatCount := count }).seat j = s.seat j := rfl
  have free : (s.onSettings fun x => { x with fittedSeatCount := count }).permit.state = .noPermit := h
  rw [refit_eq, ← seat]
  generalize (s.onSettings fun x => { x with fittedSeatCount := count }) = u at free
  exact foldl_allSeats_seat u (g := fun i x => x.recounted count i) (fun t => t.permit.state = .noPermit)
    (fun t i free => by rw [(refitSeat_free t count i free).same .permit]; exact free)
    (fun t i j _ => refitSeat_seat t count i j) free j

theorem refit_free (count : Nat) (h : s.permit.state = .noPermit) :
    SameBut [.records, .settings, .seats] s (s.refit count) :=
  SameBut_seq (onSettings_outside s _) (refitSeats_free _ count h)

theorem refit_settings (count : Nat) (h : s.permit.state = .noPermit) :
    (s.refit count).settings = { s.settings with fittedSeatCount := count } :=
  (refitSeats_free (s.onSettings fun x => { x with fittedSeatCount := count }) count h).same .settings

theorem recounted_fitted (count : Nat) (i : Fin 8) (x : Seat) :
    ((x.recounted count i).state != .notFitted) = decide (i.val < count) := by
  unfold Seat.recounted
  split
  · next h => exact h
  · rw [counted_state]
    by_cases below : i.val < count <;> simp [Seat.refitted, below]

/-- A seat's record of any standing, without a permit. -/
theorem setSeat_open_keeps (i : Fin 8) (y : Seat) (h : s.permit.state = .noPermit) :
    Keeps (.force :: .seatFault :: e) s (s.setSeat i y) := by
  refine .outside (setSeat_outside s i y) fun x touched => ?_
  cases x <;> simp [Part.blocks] at touched
  · exact .inr id
  · exact .inr fun _ held => absurd h held
  · exact .inl (by simp)
  · exact .inl (by simp)

theorem seatUpdate_open_keeps (i : Fin 8) (y : Seat) (h : s.permit.state = .noPermit) :
    Keeps (.force :: .seatFault :: e) s (s.seatUpdate i y) := by
  have changed : Keeps (.force :: .seatFault :: e) s _ :=
    (setSeat_open_keeps s i { y with changes := ((s.seat i).changes + 1) % 256 } h).trans
      (latch_keeps _ .seatChange)
  unfold State.seatUpdate
  refine .ite (fun _ => setSeat_open_keeps s i y h) fun _ => ?_
  dsimp only
  have told : Keeps (.force :: .seatFault :: e) s _ :=
    .ite (c := y.state = .fault ∧ (s.seat i).state ≠ .fault)
      (fun _ => changed.trans (latch_keeps _ .seatFault)) fun _ => changed
  exact .ite (fun _ => told.trans (permitLoss_keeps _ _)) fun _ => told

theorem refitSeat_keeps (count : Nat) (i : Fin 8) (h : s.permit.state = .noPermit) :
    Keeps (.force :: .seatFault :: e) s (s.refitSeat count i) :=
  .ite (fun _ => .ite (fun _ => .refl s) fun _ => seatUpdate_open_keeps s i _ h) fun _ =>
    .ite (fun _ => seatUpdate_open_keeps s i _ h) fun _ => .refl s

theorem refitSeats_keeps (count : Nat) (h : s.permit.state = .noPermit) :
    Keeps (.force :: .seatFault :: e) s (allSeats.foldl (State.refitSeat count) s) := by
  generalize allSeats = l
  induction l generalizing s with
  | nil => exact .refl s
  | cons i l ih =>
    refine (refitSeat_keeps s count i h).trans (ih _ ?_)
    rw [(refitSeat_free s count i h).same .permit]
    exact h

theorem refit_keeps (count : Nat) (settings : .settings ∈ e) (seatFault : .seatFault ∈ e)
    (h : s.permit.state = .noPermit) : Keeps e s (s.refit count) := by
  have stored : Keeps (.force :: .seatFault :: e) s
      (s.onSettings fun x => { x with fittedSeatCount := count }) := by
    refine .outside (onSettings_outside s _) fun x touched => ?_
    cases x <;> simp [Part.blocks] at touched
    · exact .inr id
    · exact .inl (by simp)
    · exact .inr id
    · exact .inl (List.mem_cons_of_mem _ (List.mem_cons_of_mem _ settings))
  have moved : Keeps (.force :: .seatFault :: e) s (s.refit count) :=
    stored.trans (refitSeats_keeps _ count h)
  have frame := refit_free s count h
  refine (moved.patch fun ⟨_, limit, force, wheel, turn⟩ => ?_).mono (by simp [seatFault])
  have route : (s.refit count).route = s.route := frame.same .route
  simp only [State.SettingsInForce, refit_settings s count h, route]
  refine ⟨fun i => ?_, limit, force, wheel, turn⟩
  rw [State.fitted, refit_seat s count h]
  exact recounted_fitted count i _

/-! ### Every setting -/

/-- What a write of a setting may move beyond its own block. -/
def Setting.moves : Setting → List Part
  | .fittedSeatCount => [.settings, .seatFault]
  | _ => [.settings]

/-- A change of the settings outside ramps, limits, counts and masks. -/
theorem storePlain_keeps {f : Settings → Settings} (rising : s.RampsRising → (s.onSettings f).RampsRising)
    (force : s.SettingsInForce → (s.onSettings f).SettingsInForce)
    (pairs : (f s.settings).exclusivePairMask = s.settings.exclusivePairMask) :
    Keeps [.settings] s (s.onSettings f) := onSettings_keeps s (by simp) rising force pairs

theorem storeRampStep_keeps (k : Fin 16) (v : Nat)
    (ok : (Setting.rampStep k).accepts s.settings v = true) :
    Keeps [.settings] s (s.onSettings fun x => { x with ramp := x.ramp.set k (stepOf v) k.isLt }) := by
  refine storePlain_keeps s (fun ⟨wheels, table, position⟩ => ⟨?_, table, position⟩)
    (fun ⟨fitted, limit, force, wheel, turn⟩ => ⟨fitted, limit, force, fun j => ?_, turn⟩) rfl
  · simp only [Setting.accepts, Bool.and_eq_true, Bool.or_eq_true, Bool.not_eq_true',
      decide_eq_false_iff_not] at ok
    refine increasing_update wheels (k := k) (fun j other => ?_) fun below => ?_
    · simp only [Settings.rate, State.onSettings_settings, rampStepOf_set, if_neg other]
    · have order := ok.2.resolve_left (not_not.mpr below)
      simpa only [Settings.rate, State.onSettings_settings, rampStepOf_set, if_true] using order
  · simp only [State.onSettings_settings, Vector_get_set]
    split
    · exact Nat.mod_lt _ (by decide)
    · exact wheel j

theorem storeTurntableStep_keeps (k : Fin 4) (v : Nat)
    (ok : (Setting.turntableStep k).accepts s.settings v = true) :
    Keeps [.settings] s
      (s.onSettings fun x => { x with turntableRamp := x.turntableRamp.set k (stepOf v) k.isLt }) := by
  refine storePlain_keeps s (fun ⟨wheels, table, position⟩ => ⟨wheels, ?_, position⟩)
    (fun ⟨fitted, limit, force, wheel, turn⟩ => ⟨fitted, limit, force, wheel, fun j => ?_⟩) rfl
  · simp only [Setting.accepts, Bool.and_eq_true] at ok
    refine increasing_update table (k := k) (fun j other => ?_) fun _ => ?_
    · simp only [Settings.turnRate, State.onSettings_settings, rampStepOf_set, if_neg other]
    · simpa only [Settings.turnRate, State.onSettings_settings, rampStepOf_set, if_true] using ok.2
  · simp only [State.onSettings_settings, Vector_get_set]
    split
    · exact Nat.mod_lt _ (by decide)
    · exact turn j

/-- A write that passed its tests (R202). -/
theorem store_keeps (st : Setting) (v : Nat) (admitted : st.admitted s = true)
    (ok : st.clamped = true ∨ st.accepts s.settings v = true) :
    Keeps st.moves s (st.store v s) := by
  cases st with
  | eventMask p =>
    exact onPort_masks_keeps s (by simp [Setting.moves]) (fun _ => rfl) fun x sound => ⟨sound.1, rfl⟩
  | watchSet p =>
    exact onPort_masks_keeps s (by simp [Setting.moves]) (fun _ => rfl) fun x sound => sound
  | encoderErrorLimit =>
    refine storeEncoderLimit_keeps s v (by simp [Setting.moves]) ?_
    simp only [Setting.clamped, Setting.accepts, Setting.range, Bool.and_eq_true, Bool.false_eq_true,
      false_or] at ok
    exact of_decide_eq_true ok.1
  | rampCount =>
    simp [Setting.clamped, Setting.accepts] at ok
    exact storePlain_keeps s (fun ⟨_, table, position⟩ => ⟨ok.2, table, position⟩) id rfl
  | rampStep k => exact storeRampStep_keeps s k v (ok.resolve_left (by simp [Setting.clamped]))
  | countsPerRevolution =>
    refine storeCounts_keeps s v (by simp [Setting.moves]) ?_ (by simpa [Setting.admitted] using admitted)
    simp only [Setting.clamped, Setting.accepts, Setting.range, Bool.and_eq_true, Bool.false_eq_true,
      false_or] at ok
    exact Nat.lt_of_lt_of_le (by decide) (of_decide_eq_true ok.1)
  | turntableStep k => exact storeTurntableStep_keeps s k v (ok.resolve_left (by simp [Setting.clamped]))
  | fittedSeatCount =>
    refine refit_keeps s v (by simp [Setting.moves]) (by simp [Setting.moves]) ?_
    simp only [Setting.admitted, Bool.and_eq_true, decide_eq_true_eq] at admitted
    exact admitted.1.1
  | exclusivePairMask => exact storePairMask_keeps s v (by simp [Setting.moves])
  | mismatchLimit | preTime | postTime | servoHold | wheelFollowingLimit | turntableFollowingLimit
  | occupancyFilterTime | pairFilterTime | barSlack | pullInTime | holdLevel | releaseTimeout
  | occupiedMinimum | emptyMinimum | concurWindow | consentWindow | safeOffMask | flashSize | duckLevel
  | duckStep | faultFadeStep | announcementGain | announcementClip =>
    exact storePlain_keeps s id id rfl

theorem accepts_stored (st : Setting) (x : Settings) (v : Nat) (ok : st.clamped = true ∨ st.accepts x v = true) :
    st.clamped = true ∨ st.accepts x (st.stored v) = true := by
  rcases h : st.clamped with _ | _
  · rw [h] at ok
    refine .inr ?_
    rw [Setting.stored, h]
    exact ok.resolve_left (by simp)
  · exact .inl rfl

/-- What Write Setting from a port may move (R202). -/
def writeMoves (p : Port) (number : Nat) : List Part :=
  if p = .a ∧ number = 80 then [.settings, .seatFault] else [.settings]

/-- A number above those of the table names no setting. -/
theorem settingOf_large {n : Nat} (h : 137 ≤ n) : settingOf n = none := by
  obtain ⟨m, rfl⟩ := Nat.exists_eq_add_of_le' h
  unfold settingOf
  rw [dif_neg (by omega), dif_neg (by omega), dif_neg (by omega)]
  rfl

/-- A number names the setting whose number it is. -/
theorem number_of_settingOf {n : Nat} {st : Setting} (h : settingOf n = some st) : n = st.number := by
  have named : ∀ k : Fin 137, (settingOf k).all (fun st => st.number == k.val) = true := by decide
  by_cases small : n < 137
  · have own := named ⟨n, small⟩
    rw [h] at own
    exact (beq_iff_eq.mp own).symm
  · rw [settingOf_large (by omega)] at h
    cases h

theorem moves_writeMoves {n : Nat} {st : Setting} (h : settingOf n = some st) (x : Part)
    (k : x ∈ st.moves) : x ∈ writeMoves st.owner n := by
  have number := number_of_settingOf h
  cases st <;> simp_all [Setting.moves, writeMoves, Setting.owner, Setting.number]
  all_goals split <;> simp

theorem writeJudged_keeps (p : Port) (number v : Nat) {t : State}
    (h : s.writeJudged p number v = .ok t) : Keeps (writeMoves p number) s t := by
  unfold State.writeJudged at h
  split at h
  · cases h
  next st named =>
  split at h
  · cases h
  next owner =>
  rw [not_not] at owner
  split at h
  · cases h
  next admitted =>
  split at h
  · cases h
  next ok =>
  cases h
  subst owner
  refine (store_keeps s st _ (by simpa using admitted) (accepts_stored st _ v ?_)).mono (moves_writeMoves named)
  simpa [or_iff_not_imp_left] using ok

end

end Sys2Proof.Machine
end

section
/-! What a port's bytes name, row by row: the command's port, its bytes, their number (R192, R193). -/

namespace Sys2Proof.Machine

-- One theorem at a time: each waits for the kernel, and many waiting at once are many threads.
set_option Elab.async false

/-! ## Words and their bytes -/

theorem numBytes_half (a b : Byte) : numBytes 2 (half a b).toNat = [a, b] := numBytes_wordOf a b

theorem toNat_triple (a b c : Byte) :
    (triple a b c).toNat = (a.toNat * 256 + b.toNat) * 256 + c.toNat := by
  rw [triple, BitVec.toNat_append, BitVec.toNat_append, ← Nat.shiftLeft_add_eq_or_of_lt c.isLt,
    ← Nat.shiftLeft_add_eq_or_of_lt b.isLt, Nat.shiftLeft_eq, Nat.shiftLeft_eq]

theorem toNat_quad (a b c d : Byte) :
    (quad a b c d).toNat = ((a.toNat * 256 + b.toNat) * 256 + c.toNat) * 256 + d.toNat := by
  rw [quad, BitVec.toNat_append, ← Nat.shiftLeft_add_eq_or_of_lt d.isLt, Nat.shiftLeft_eq]
  exact congrArg (· * 256 + d.toNat) (toNat_triple a b c)

theorem ofNat_shifted (m : Nat) (b : Byte) : BitVec.ofNat 8 (m * 256 + b.toNat) = b :=
  BitVec.eq_of_toNat_eq (by rw [BitVec.toNat_ofNat]; have := b.isLt; omega)

theorem shifted_div (m : Nat) (b : Byte) : (m * 256 + b.toNat) / 256 = m := by
  have := b.isLt
  omega

theorem ofNat_byte (b : Byte) : BitVec.ofNat 8 b.toNat = b := by rw [BitVec.ofNat_toNat, BitVec.setWidth_eq]

theorem numBytes_triple (a b c : Byte) : numBytes 3 (triple a b c).toNat = [a, b, c] := by
  rw [toNat_triple]
  simp only [numBytes, shifted_div, ofNat_shifted, ofNat_byte]
  rfl

theorem numBytes_quad (a b c d : Byte) : numBytes 4 (quad a b c d).toNat = [a, b, c, d] := by
  rw [toNat_quad]
  simp only [numBytes, shifted_div, ofNat_shifted, ofNat_byte]
  rfl

/-- A byte that is a number. -/
theorem eq_ofNat {x : Byte} {k : Nat} (h : x.toNat = k) : x = BitVec.ofNat 8 k := by
  rw [← h, BitVec.ofNat_toNat, BitVec.setWidth_eq]

/-! ## Records of ten bytes -/

/-- Bytes read as records are the bytes of those records. -/
theorem flatMap_of_records : ∀ (bytes : List Byte) {l : List (Vector Byte 10)},
    records bytes = some l → l.flatMap (·.toList) = bytes
  | [], l, h => by cases h; rfl
  | a :: b :: c :: d :: e :: f :: g :: i :: j :: k :: rest, l, h => by
    obtain ⟨m, read, rfl⟩ := Option.map_eq_some_iff.mp h
    rw [List.flatMap_cons, flatMap_of_records rest read]
    rfl
  | [_], _, h => by cases h
  | [_, _], _, h => by cases h
  | [_, _, _], _, h => by cases h
  | [_, _, _, _], _, h => by cases h
  | [_, _, _, _, _], _, h => by cases h
  | [_, _, _, _, _, _], _, h => by cases h
  | [_, _, _, _, _, _, _], _, h => by cases h
  | [_, _, _, _, _, _, _, _], _, h => by cases h
  | [_, _, _, _, _, _, _, _, _], _, h => by cases h

theorem length_flatMap_records (l : List (Vector Byte 10)) :
    (l.flatMap (·.toList)).length = 10 * l.length := by
  induction l with
  | nil => rfl
  | cons r l ih => rw [List.flatMap_cons, List.length_append, ih, Vector.length_toList, List.length_cons]; omega

/-! ## The bytes of the parts of a command -/

theorem frameBytes_writeRow (p : Port) (n : Byte) (v : BitVec 32) :
    frameBytes (writeRow p n v) = some (writeBytes n.toNat v) := by
  unfold writeRow
  split
  all_goals first
    | rfl
    | (next named => rw [number_of_settingOf named]; rfl)

theorem patternWire_read (m t1 t0 o1 o0 n l : Byte) :
    patternWire (patternRead m t1 t0 o1 o0 n l) = [m, t1, t0, o1, o0, n, l] := by
  simp only [patternWire, patternRead, numBytes_half]
  rfl

theorem legBytes_read (d l2 l1 l0 k s1 s0 f w1 w0 g : Byte) :
    legBytes (legRead d l2 l1 l0 k s1 s0 f w1 w0 g) = [d, l2, l1, l0, k, s1, s0, f, w1, w0, g] := by
  simp only [legBytes, legRead, numBytes_half, numBytes_triple]
  rfl

theorem writeRow_sender (p : Port) (n : Byte) (v : BitVec 32) : (writeRow p n v).sender = some p := by
  unfold writeRow
  split <;> rfl

/-! ## Codes

Each row function tests the code first. Its tests are opened here once; a `split` would have Lean derive
the overlaps of the argument patterns, which none of these proofs needs. -/

theorem shortRow_code {p : Port} {code : Byte} {args : List Byte} {c : Instr}
    (h : shortRow p code args = some c) :
    code.toNat ∈ [0x02, 0x04, 0x11, 0x15, 0x25, 0x30, 0x38, 0x39, 0x41, 0x42, 0x51, 0x54, 0x56, 0x61, 0x72, 0x73, 0x74] := by
  by_contra other
  simp only [List.mem_cons, List.not_mem_nil, or_false, not_or] at other
  obtain ⟨n1, n2, n3, n4, n5, n6, n7, n8, n9, n10, n11, n12, n13, n14, n15, n16, n17⟩ := other
  delta shortRow shortRow.match_1 at h
  rw [dif_neg n1, dif_neg n2, dif_neg n3, dif_neg n4, dif_neg n5, dif_neg n6, dif_neg n7, dif_neg n8, dif_neg n9, dif_neg n10, dif_neg n11, dif_neg n12, dif_neg n13, dif_neg n14, dif_neg n15, dif_neg n16, dif_neg n17] at h
  cases h

theorem longRow_code {p : Port} {code : Byte} {args : List Byte} {c : Instr}
    (h : longRow p code args = some c) :
    code.toNat ∈ [0x03, 0x10, 0x20, 0x21, 0x50, 0x60, 0x71] := by
  by_contra other
  simp only [List.mem_cons, List.not_mem_nil, or_false, not_or] at other
  obtain ⟨n1, n2, n3, n4, n5, n6, n7⟩ := other
  delta longRow longRow.match_1 at h
  rw [dif_neg n1, dif_neg n2, dif_neg n3, dif_neg n4, dif_neg n5, dif_neg n6, dif_neg n7] at h
  cases h

/-! ## What the bytes of a command say of it -/

/-- A command named by its code and its argument bytes: its port, its bytes, and how many its code owes. -/
structure Spelled (p : Port) (code : Byte) (args : List Byte) (c : Instr) : Prop where
  sender : c.sender = some p
  bytes : frameBytes c = some (code :: args)
  count : c.wellFormed = true → argumentCount code = some args.length ∧ code ≠ Code.loadCue
    ∨ argumentCount code = some 12 ∧ code = Code.loadCue ∧ args.length = 12 + actionBytes (args.getD 11 0)

/-- A row of the table whose code owes as many bytes as the command has. -/
theorem Spelled.of {p : Port} {code : Byte} {args : List Byte} {c : Instr} (sender : c.sender = some p)
    (bytes : frameBytes c = some (code :: args)) (count : argumentCount code = some args.length)
    (other : (code == Code.loadCue) = false) : Spelled p code args c :=
  ⟨sender, bytes, fun _ => .inl ⟨count, ne_of_beq_false other⟩⟩

theorem bareRow_spelled {p : Port} {pins : Pins} {code : Byte} {c : Instr}
    (h : bareRow p pins code = some c) : Spelled p code [] c := by
  unfold bareRow at h
  split at h
  all_goals cases h
  all_goals
    cases eq_ofNat (by assumption)
    exact .of rfl rfl rfl rfl

theorem resetRow_spelled {p : Port} {x : Byte} {c : Instr} (h : resetRow p x = some c) :
    Spelled p Code.resetSection [x] c := by
  unfold resetRow at h
  split at h
  all_goals cases h
  all_goals
    cases eq_ofNat (by assumption)
    exact .of rfl rfl rfl rfl

theorem effectRow_spelled {p : Port} {c o m t1 t0 o1 o0 n l : Byte} {i : Instr}
    (h : effectRow p c o (patternRead m t1 t0 o1 o0 n l) = some i) :
    Spelled p Code.setEffect [c, o, m, t1, t0, o1, o0, n, l] i := by
  have wire := congrArg (fun bytes => some (Code.setEffect :: c :: o :: bytes)) (patternWire_read m t1 t0 o1 o0 n l)
  unfold effectRow at h
  split at h
  all_goals cases h
  all_goals
    rw [eq_ofNat (x := o) (by assumption)] at wire ⊢
    exact .of rfl wire rfl rfl

theorem shortRow_spelled {p : Port} {code : Byte} {args : List Byte} {c : Instr}
    (h : shortRow p code args = some c) : Spelled p code args c := by
  have named := shortRow_code h
  simp only [List.mem_cons, List.not_mem_nil, or_false] at named
  rcases named with named | named | named | named | named | named | named | named | named | named
    | named | named | named | named | named | named | named
  all_goals cases eq_ofNat named
  case inr.inl =>
    rcases args with _ | ⟨x, _ | _⟩
    · cases h
    · exact resetRow_spelled h
    · cases h
  all_goals rcases args, h with ⟨_ | ⟨a, _ | ⟨b, _ | ⟨d, _ | ⟨e, l⟩⟩⟩⟩, ⟨⟩⟩
  case inr.inr.inr.inr.inr.inl =>
    exact .of rfl (congrArg (fun l => some ([Code.turnTo] ++ l ++ [_])) (numBytes_half _ _)) rfl rfl
  case inr.inr.inr.inr.inr.inr.inr.inr.inl =>
    exact .of rfl (congrArg (fun l => some ([Code.concur] ++ l ++ [_])) (numBytes_half _ _)) rfl rfl
  case inr.inr.inr.inr.inr.inr.inr.inr.inr.inl =>
    exact .of rfl (congrArg (fun l => some ([Code.renewConsent] ++ l)) (numBytes_half _ _)) rfl rfl
  all_goals exact .of rfl rfl rfl rfl

theorem longRow_spelled {p : Port} {code : Byte} {args : List Byte} {c : Instr}
    (h : longRow p code args = some c) : Spelled p code args c := by
  have named := longRow_code h
  simp only [List.mem_cons, List.not_mem_nil, or_false] at named
  rcases named with named | named | named | named | named | named | named
  all_goals cases eq_ofNat named
  case inl =>
    rcases args, h with ⟨_ | ⟨n, _ | ⟨v3, _ | ⟨v2, _ | ⟨v1, _ | ⟨v0, _ | ⟨_, _⟩⟩⟩⟩⟩⟩, ⟨⟩⟩
    refine .of (writeRow_sender p _ _) ?_ rfl rfl
    rw [frameBytes_writeRow, writeBytes, numBytes_quad, ofNat_byte]
    rfl
  case inr.inl =>
    rcases args, h with ⟨_ | ⟨i, _ | ⟨p3, _ | ⟨p2, _ | ⟨p1, _ | ⟨p0, _ | ⟨t1, _ | ⟨t0, _ | ⟨k, _ | ⟨_, _⟩⟩⟩⟩⟩⟩⟩⟩⟩, ⟨⟩⟩
    have bytes : [Code.loadMarker, i] ++ numBytes 4 (quad p3 p2 p1 p0).toNat ++ numBytes 2 (half t1 t0).toNat ++ [k]
        = [Code.loadMarker, i, p3, p2, p1, p0, t1, t0, k] := by
      rw [numBytes_quad, numBytes_half]; rfl
    exact .of rfl (congrArg some bytes) rfl rfl
  case inr.inr.inl =>
    rcases args, h with ⟨_ | ⟨d, _ | ⟨l2, _ | ⟨l1, _ | ⟨l0, _ | ⟨k, _ | ⟨s1, _ | ⟨s0, _ | ⟨f, _ | ⟨w1, _ | ⟨w0,
      _ | ⟨g, _ | ⟨_, _⟩⟩⟩⟩⟩⟩⟩⟩⟩⟩⟩⟩, ⟨⟩⟩
    have leg := legBytes_read d l2 l1 l0 k s1 s0 f w1 w0 g
    exact .of rfl (congrArg (fun l => some (Code.appendLeg :: l)) leg) rfl rfl
  case inr.inr.inr.inl =>
    rcases args, h with ⟨_ | ⟨d, _ | ⟨l2, _ | ⟨l1, _ | ⟨l0, _ | ⟨k, _ | ⟨s1, _ | ⟨s0, _ | ⟨f, _ | ⟨w1, _ | ⟨w0,
      _ | ⟨g, _ | ⟨m, _ | ⟨a, _ | ⟨_, _⟩⟩⟩⟩⟩⟩⟩⟩⟩⟩⟩⟩⟩⟩, ⟨⟩⟩
    have leg := legBytes_read d l2 l1 l0 k s1 s0 f w1 w0 g
    exact .of rfl (congrArg (fun l => some (Code.appendSeekLeg :: (l ++ [m, a]))) leg) rfl rfl
  case inr.inr.inr.inr.inl =>
    rcases args with _ | ⟨i, _ | ⟨t3, _ | ⟨t2, _ | ⟨t1, _ | ⟨t0, _ | ⟨d, _ | ⟨q, _ | ⟨l3, _ | ⟨l2, _ | ⟨l1,
      _ | ⟨l0, _ | ⟨n, rest⟩⟩⟩⟩⟩⟩⟩⟩⟩⟩⟩⟩
    all_goals try cases h
    obtain ⟨actions, read, rfl⟩ := Option.map_eq_some_iff.mp h
    refine ⟨rfl, ?_, fun wellFormed => .inr ⟨rfl, rfl, ?_⟩⟩
    · have bytes : cueBytes ⟨i, quad t3 t2 t1 t0, d, q, quad l3 l2 l1 l0, n, actions⟩
          = i :: t3 :: t2 :: t1 :: t0 :: d :: q :: l3 :: l2 :: l1 :: l0 :: n :: rest := by
        simp only [cueBytes, numBytes_quad, flatMap_of_records _ read]
        rfl
      exact congrArg (fun l => some (Code.loadCue :: l)) bytes
    · have length := length_flatMap_records actions
      rw [flatMap_of_records _ read] at length
      have counted := beq_iff_eq.mp wellFormed
      simp only [List.length_cons, length, counted, List.getD_cons_succ, List.getD_cons_zero]
      omega
  case inr.inr.inr.inr.inr.inl =>
    rcases args with _ | ⟨c, _ | ⟨o, _ | ⟨m, _ | ⟨t1, _ | ⟨t0, _ | ⟨o1, _ | ⟨o0, _ | ⟨n, _ | ⟨l, _ | ⟨_, _⟩⟩⟩⟩⟩⟩⟩⟩⟩⟩
    all_goals try cases h
    exact effectRow_spelled h
  case inr.inr.inr.inr.inr.inr =>
    rcases args, h with ⟨_ | ⟨v, _ | ⟨c, _ | ⟨g, _ | ⟨f, _ | ⟨z, _ | ⟨n, _ | ⟨l, _ | ⟨x, _ | ⟨_, _⟩⟩⟩⟩⟩⟩⟩⟩⟩, ⟨⟩⟩
    exact .of rfl rfl rfl rfl

theorem parseCommand_spelled {p : Port} {pins : Pins} {code : Byte} {args : List Byte} {c : Instr}
    (h : parseCommand p pins code args = some c) : Spelled p code args c := by
  unfold parseCommand at h
  split at h
  · exact bareRow_spelled h
  · split at h
    · next short => cases h; exact shortRow_spelled short
    · exact longRow_spelled h

end Sys2Proof.Machine
end

section
/-! Every step: what `exec` keeps, row by row, and the statements that follow from it. -/

namespace Sys2Proof.Machine

-- One theorem at a time: each waits for the kernel, and many waiting at once are many threads.
set_option Elab.async false

section
variable {e : List Part} (s : State)

/-! ## Commands -/

theorem allowed_keeps {ports : List Port} {p : Port} {code : Byte} {f : State → State}
    (h : p ∈ ports → Keeps e s (f s)) : Keeps e s (s.allowed ports p code f) :=
  .ite h fun _ => refuse_keeps s _ _ _

theorem judged_keeps {p : Port} {code : Byte} {j : State → Except Reason State}
    (h : ∀ t, j s = .ok t → Keeps e s t) : Keeps e s (s.judged p code j) := by
  unfold State.judged
  split
  · next t ok => exact h t ok
  · exact refuse_keeps s _ _ _

theorem clearLockoutJudged_keeps (pair : Byte) {t : State} (h : s.clearLockoutJudged pair = .ok t) :
    Keeps e s t := by
  unfold State.clearLockoutJudged at h
  split at h
  · cases h
  · split at h <;> cases h
    · exact ((setChannel_inactive_keeps s rfl).trans (setChannel_inactive_keeps _ rfl)).trans
        (onEffects_channel_keeps _ rfl)
    · exact .refl s

theorem hardStopUnlessFaulted_keeps (cause : StopCause) : Keeps e s (s.hardStopUnlessFaulted cause) :=
  .ite (fun _ => .refl s) fun running => hardStop_keeps s cause running

theorem takeWriteSetting_keeps (p : Port) (number : Nat) (value : BitVec 32) :
    Keeps (writeMoves p number) s (takeWriteSetting p number value s) :=
  judged_keeps s fun _ h => writeJudged_keeps s p number _ h

/-- A write of a setting with a row of its own, not the fitted seat count. -/
theorem writeMoves_plain {p : Port} {n : Nat} (h : n ≠ 80) : writeMoves p n = [.settings] := by
  simp [writeMoves, h]

end

/-- What port B alone may move. -/
def onlyB : Port → List Part → List Part
  | .b, l => l
  | _, _ => []

/-- What a row may move beyond what every step keeps (power-on reset and release of RESET apart). -/
def rowMoves : Instr → List Part
  | .writeSetting p n _ => writeMoves p n.toNat
  | .writeFittedSeatCount p _ => writeMoves p 80
  | .writeEventMask _ _ _ | .writePhaseWatchSet _ _ _ | .writeEncoderErrorLimit _ _
  | .writeRampTable _ _ _ | .writeTurntableCountsPerRevolution _ _ | .writeTurntableStep _ _ _
  | .writeExclusivePairMask _ _ => [.settings]
  | .clearMotionFault p => onlyB p [.fault]
  | .clearSeatFault p _ => onlyB p [.seatFault]
  | .concur p _ _ => onlyB p [.grant]
  | .byteSlot p _ _ => [.settings, .seatFault] ++ onlyB p [.fault, .grant]
  | _ => []

section
variable (s : State)

/-- A command whose judgement keeps every part, behind its test of rights. -/
theorem allowedJudged_keeps {e : List Part} {ports : List Port} {p : Port} {code : Byte}
    {j : State → Except Reason State} (h : ∀ u t : State, j u = .ok t → Keeps e u t) :
    Keeps e s (s.allowed ports p code (·.judged p code j)) :=
  allowed_keeps s fun _ => judged_keeps s (h s)

theorem takeHold_keeps {e : List Part} (p : Port) : Keeps e s (takeHold p s) := by
  cases p
  · exact addReason_keeps s (by simp [HoldSet.isEmpty]) rfl
  · exact refuse_keeps s _ _ _
  · exact addReason_keeps s (by simp [HoldSet.isEmpty]) rfl

theorem takeSoftStop_keeps {e : List Part} (p : Port) : Keeps e s (takeSoftStop p s) := by
  cases p
  · exact softStop_keeps s _
  · exact softStop_keeps s _
  · exact refuse_keeps s _ _ _

theorem takeHardStop_keeps {e : List Part} (p : Port) : Keeps e s (takeHardStop p s) := by
  cases p
  · exact hardStopUnlessFaulted_keeps s _
  · exact hardStopUnlessFaulted_keeps s _
  · exact refuse_keeps s _ _ _

theorem takeClearMotionFault_keeps (p : Port) :
    Keeps (rowMoves (.clearMotionFault p)) s (takeClearMotionFault p s) := by
  cases p
  · exact refuse_keeps s _ _ _
  · exact allowedJudged_keeps s fun u t h => clearFaultJudged_keeps u h
  · exact refuse_keeps s _ _ _

theorem takeClearSeatFault_keeps (p : Port) (mask : BitVec 8) :
    Keeps (rowMoves (.clearSeatFault p mask)) s (takeClearSeatFault p mask s) := by
  cases p
  · exact refuse_keeps s _ _ _
  · exact allowed_keeps s fun _ => clearSeats_keeps s mask
  · exact refuse_keeps s _ _ _

theorem takeConcur_keeps (p : Port) (g : BitVec 16) (mask : BitVec 8) :
    Keeps (rowMoves (.concur p g mask)) s (takeConcur p g mask s) := by
  cases p
  · exact refuse_keeps s _ _ _
  · exact allowed_keeps s fun _ => concurOp_keeps s _ g mask
  · exact refuse_keeps s _ _ _

theorem takeReadSetting_keeps {e : List Part} (p : Port) (n : Byte) :
    Keeps e s (takeReadSetting p n s) := by
  unfold takeReadSetting
  split
  · exact respond_keeps s _ _ _
  · exact refuse_keeps s _ _ _

theorem takeReadCue_keeps {e : List Part} (p : Port) (n : Byte) : Keeps e s (takeReadCue p n s) := by
  unfold takeReadCue
  split
  · exact respond_keeps s _ _ _
  · exact refuse_keeps s _ _ _

/-- A write row with a number of its own keeps all but the settings. -/
theorem takeWriteSetting_plain {p : Port} {n : Nat} (value : BitVec 32) (h : n ≠ 80) :
    Keeps [.settings] s (takeWriteSetting p n value s) := by
  have moved := takeWriteSetting_keeps s p n value
  rwa [writeMoves_plain h] at moved

/-- A command's effect keeps what its row keeps. -/
theorem takeCommand_keeps (c : Instr) : Keeps (rowMoves c) s (takeCommand c s) := by
  cases c with
  | readStatus p => exact (respond_keeps s _ _ _).trans (emptied_keeps _ p)
  | readSetting p n => exact takeReadSetting_keeps s p n
  | writeSetting p n v => exact takeWriteSetting_keeps s p _ v
  | writeEventMask p q v => exact takeWriteSetting_plain s v (by cases q <;> decide)
  | writePhaseWatchSet p q v => exact takeWriteSetting_plain s v (by cases q <;> decide)
  | writeEncoderErrorLimit p v => exact takeWriteSetting_plain s v (by decide)
  | writeRampTable p entry v =>
    refine takeWriteSetting_plain s v ?_
    cases entry with
    | count => decide
    | step k => simp only [rampSetting, Setting.number]; omega
  | writeTurntableCountsPerRevolution p v => exact takeWriteSetting_plain s v (by decide)
  | writeTurntableStep p k v =>
    exact takeWriteSetting_plain s v (by simp only [Setting.number]; omega)
  | writeFittedSeatCount p v => exact takeWriteSetting_keeps s p _ v
  | writeExclusivePairMask p v => exact takeWriteSetting_plain s v (by decide)
  | resetSectionMotion p => exact allowed_keeps s fun _ => motionReset_keeps s
  | resetSectionShow p => exact allowed_keeps s fun _ => showReset_keeps s
  | loadMarker p id x tol kind =>
    exact allowedJudged_keeps s fun u t h => loadMarkerJudged_keeps u id x tol kind h
  | deleteMarker p id => exact allowedJudged_keeps s fun u t h => deleteMarkerJudged_keeps u id h
  | clearMarkers p => exact allowedJudged_keeps s fun u t h => clearMarkersJudged_keeps u h
  | zeroRoute p => exact allowedJudged_keeps s fun u t h => zeroRouteJudged_keeps u h
  | appendLeg p leg => exact allowedJudged_keeps s fun u t h => appendJudged_keeps u leg none h
  | appendSeekLeg p leg marker action =>
    exact allowedJudged_keeps s fun u t h => appendJudged_keeps u leg _ h
  | flushLegs p => exact allowed_keeps s fun _ => flushed_keeps s
  | go p => exact allowedJudged_keeps s fun u t h => goJudged_keeps u h
  | hold p => exact takeHold_keeps s p
  | releaseHold p reason => exact releaseHoldOp_keeps s p reason
  | softStop p => exact takeSoftStop_keeps s p
  | hardStop p => exact takeHardStop_keeps s p
  | clearMotionFault p => exact takeClearMotionFault_keeps s p
  | turnTo p target mode => exact allowedJudged_keeps s fun u t h => turnJudged_keeps u target mode h
  | homeTurntable p => exact allowedJudged_keeps s fun u t h => homeJudged_keeps u h
  | releaseBars p mask => exact allowedJudged_keeps s fun u t h => releaseJudged_keeps u mask h
  | clearSeatFault p mask => exact takeClearSeatFault_keeps s p mask
  | beginCheck p => exact allowedJudged_keeps s fun u t h => checkJudged_keeps u h
  | concur p g mask => exact takeConcur_keeps s p g mask
  | renewConsent p g => exact allowedJudged_keeps s fun u t h => renewJudged_keeps u g h
  | revokeConsent p => exact allowed_keeps s fun _ => permitLoss_keeps s _
  | loadCue p cue => exact allowedJudged_keeps s fun u t h => loadCueJudged_keeps u cue h
  | deleteCue p slot => exact allowedJudged_keeps s fun u t h => deleteCueJudged_keeps u slot h
  | armCues p | disarmCues p => exact allowed_keeps s fun _ => setEngine_keeps s _
  | fireCue p slot => exact allowedJudged_keeps s fun u t h => fireCueJudged_keeps u slot h
  | readCue p n => exact takeReadCue_keeps s p n
  | setEffectStart p channel pattern =>
    exact allowedJudged_keeps s fun u t h => startJudged_keeps u channel pattern h
  | setEffectArm p channel pattern =>
    exact allowedJudged_keeps s fun u t h => armJudged_keeps u channel pattern h
  | setEffectOff p channel pattern => exact allowedJudged_keeps s fun u t h => offJudged_keeps u channel h
  | clearEffectLockout p pair =>
    exact allowedJudged_keeps s fun u t h => clearLockoutJudged_keeps u pair h
  | mountClips p => exact allowedJudged_keeps s fun u t h => mountJudged_keeps u h
  | play p args => exact allowedJudged_keeps s fun u t h => playJudged_keeps u args h
  | stopVoice p voice step => exact allowedJudged_keeps s fun u t h => stopJudged_keeps u voice step h
  | setVoiceGain p voice target step =>
    exact allowedJudged_keeps s fun u t h => gainJudged_keeps u voice target step h
  | setZoneLevel p zone target step =>
    exact allowedJudged_keeps s fun u t h => zoneJudged_keeps u zone target step h
  | readDrive p pins | readSeats p pins => exact (withPins_keeps s pins).trans (respond_keeps _ _ _ _)
  | readEffects p pins =>
    exact ((withPins_keeps s pins).trans (respond_keeps _ _ _ _)).trans (spendFree_keeps _ 1)
  | readSound p => exact (respond_keeps s _ _ _).trans (onSound_aside_keeps _ rfl rfl rfl rfl)
  | readRoute p | readMarker p | readMarkerList p | readMotion p | readLegs p | readTurntable p
  | readPermit p | readCueEngine p | readCueLog p | readClipTable p => exact respond_keeps s _ _ _
  | _ => exact .refl s

/-! ## Commands from their bytes -/

theorem mem_onlyB {x : Part} {p : Port} {l : List Part} : x ∈ onlyB p l ↔ p = .b ∧ x ∈ l := by
  cases p <;> simp [onlyB]

/-- The commands of a port move no more than its byte slots. -/
theorem rowMoves_byteSlot {c : Instr} {p : Port} (h : c.sender = some p) (b : Byte) (pins : Pins) :
    ∀ x ∈ rowMoves c, x ∈ rowMoves (.byteSlot p b pins) := by
  have small (n : Nat) : writeMoves p n ⊆ [.settings, .seatFault] := by
    unfold writeMoves; split <;> decide
  show ∀ x ∈ rowMoves c, x ∈ [.settings, .seatFault] ++ onlyB p [.fault, .grant]
  simp only [List.mem_append, mem_onlyB]
  revert h
  unfold rowMoves
  split
  all_goals intro h x moved
  case h_14 => cases moved
  all_goals cases h
  case h_1 | h_2 => exact .inl (small _ moved)
  all_goals simp [mem_onlyB] at moved
  all_goals simp [moved]

/-! ## Bytes and frames -/

theorem takeUnreadable_keeps {e : List Part} (p : Port) (code : Byte) :
    Keeps e s (takeUnreadable p code s) := allowed_keeps s fun _ => refuse_keeps s _ _ _

theorem takeBytes_keeps (p : Port) (pins : Pins) (code : Byte) (args : List Byte) (b : Byte)
    (pins' : Pins) : Keeps (rowMoves (.byteSlot p b pins')) s (takeBytes p pins code args s) := by
  have framed : Keeps (rowMoves (.byteSlot p b pins')) s (s.onPort p (·.commandFramed)) :=
    commandFramed_keeps s p
  unfold takeBytes
  dsimp only
  generalize (s.onPort p (·.commandFramed)) = u at framed
  refine framed.trans ?_
  split
  · next c parsed =>
    exact (takeCommand_keeps u c).mono (rowMoves_byteSlot ((parseCommand_spelled parsed).sender) b pins')
  · exact takeUnreadable_keeps u p code

theorem unknown_keeps {e : List Part} (p : Port) (code : Byte) : Keeps e s (s.unknown p code) := by
  refine (refuse_keeps s p _ code).trans (framing_keeps _ p ?_ ?_ ?_)
  all_goals intro x; unfold PortState.voided; split <;> rfl

theorem byteReceived_keeps (p : Port) (b : Byte) (pins : Pins) :
    Keeps (rowMoves (.byteSlot p b pins)) s (s.byteReceived p b pins) := by
  unfold State.byteReceived
  dsimp only
  split
  · exact .refl s
  · exact .refl s
  · split
    · exact unknown_keeps s p b
    · exact takeBytes_keeps s p pins b [] b pins
    · exact framing_keeps s p (fun _ => rfl) (fun _ => rfl) fun _ => rfl
  · split
    · exact .refl s
    · exact .ite (fun _ => takeBytes_keeps s p pins _ _ b pins) fun _ =>
        framing_keeps s p (fun _ => rfl) (fun _ => rfl) fun _ => rfl

theorem csRises_keeps {e : List Part} (p : Port) : Keeps e s (s.csRises p) := by
  have ended (u : State) : Keeps e u (u.onPort p (·.frameEnded)) :=
    framing_keeps u p (fun _ => rfl) (fun _ => rfl) fun _ => rfl
  refine .ite (fun _ => framing_keeps s p (fun _ => rfl) (fun _ => rfl) fun _ => rfl) fun _ => ?_
  split
  · exact (refuse_keeps s p _ _).trans (ended _)
  · exact ended s

theorem frameBegun_keeps {e : List Part} (p : Port) : Keeps e s (s.onPort p (·.frameBegun)) := by
  refine framing_keeps s p ?_ ?_ ?_
  all_goals
    intro x
    unfold PortState.frameBegun
    split
    · simp only [record_slotBegun, mask_slotBegun, watch_slotBegun] <;> rfl
    · rfl

end

/-! ## Every row -/

theorem commandTaken_keeps {e : List Part} {p : Port} {f : State → State} {s t : State}
    (h : ∀ u, Keeps e u (f u)) (k : commandTaken p f s = .next t) : Keeps e s t := by
  cases k
  exact .ite (fun _ => .refl s) fun _ =>
    ((commandFramed_keeps s p).trans (h _)).trans (slotBegun_keeps _ p)

theorem eventTaken_keeps {e : List Part} {f : State → State} {s t : State} (h : Keeps e s (f s))
    (k : eventTaken f s = .next t) : Keeps e s t := by
  cases k
  exact .ite (fun _ => .refl s) fun _ => h

/-- Power-on reset and release of RESET: the rows that are no command and no event. -/
def Instr.resets : Instr → Bool
  | .powerOnReset | .resetRelease _ _ => true
  | _ => false

/-- What every row but the two of RESET keeps. -/
theorem exec_keeps {c : Instr} {s t : State} (row : Instr.resets c = false) (h : exec c s = .next t) :
    Keeps (rowMoves c) s t := by
  cases sender : c.sender with
  | some p =>
    rw [exec_eq_commandTaken sender] at h
    exact commandTaken_keeps (fun u => takeCommand_keeps u c) h
  | none =>
    cases c with
    | powerOnReset | resetRelease => cases row
    | byteSlot p b pins =>
      exact eventTaken_keeps (f := fun s =>
        ((s.withPins pins).byteReceived p b pins).onPort p (·.slotBegun)) (((withPins_keeps s pins).trans (byteReceived_keeps _ p b pins)).trans
        (slotBegun_keeps _ p)) h
    | frameStart p => exact eventTaken_keeps (frameBegun_keeps s p) h
    | csRise p => exact eventTaken_keeps (csRises_keeps s p) h
    | unknownCode p code =>
      exact eventTaken_keeps (f := fun s => (s.unknown p code).onPort p (·.slotBegun))
        ((unknown_keeps s p code).trans (slotBegun_keeps _ p)) h
    | encoderTransition i a b => exact eventTaken_keeps (encoderMoves_keeps s i a b) h
    | turntableIndex => exact eventTaken_keeps (indexEvent_keeps s) h
    | markerByteReceived b stop => exact eventTaken_keeps (markerByte_keeps s b stop) h
    | markerGapExpiry => exact eventTaken_keeps (gapExpires_keeps s) h
    | barCountEdge i lowering => exact eventTaken_keeps (barEdge_keeps s i lowering) h
    | motionTick pins ends => exact eventTaken_keeps (tick_keeps s pins ends) h
    | legEnd => exact eventTaken_keeps (legEnd_keeps s) h
    | retreatAtRest => exact eventTaken_keeps (retreatAtRest_keeps s) h
    | preEnd => exact eventTaken_keeps (preEnd_keeps s) h
    | dwellEnd => exact eventTaken_keeps (dwellEnd_keeps s) h
    | postEnd => exact eventTaken_keeps (postEnd_keeps s) h
    | sceneTimerExpiry => exact eventTaken_keeps (sceneExpiry_keeps s) h
    | ttPreEnd => exact eventTaken_keeps (ttPreEnd_keeps s) h
    | turnEnd => exact eventTaken_keeps (turnEnd_keeps s) h
    | turnRetreatAtRest => exact eventTaken_keeps (turnRetreatAtRest_keeps s) h
    | homingLimit => exact eventTaken_keeps (homingLimit_keeps s) h
    | pairFilterAccept i => exact eventTaken_keeps (pairAccept_keeps s i) h
    | occupancyChange i => exact eventTaken_keeps (occupancyChange_keeps s i) h
    | pullInEnd i => exact eventTaken_keeps (pullInEnd_keeps s i) h
    | releaseTimeout i => exact eventTaken_keeps (releaseTimedOut_keeps s i) h
    | concurTimeout => exact eventTaken_keeps (concurTimeout_keeps s) h
    | consentExpired => exact eventTaken_keeps (consentExpired_keeps s) h
    | effectTimeBaseTick pins ends => exact eventTaken_keeps (effectTick_keeps s pins ends) h
    | effectIntervalEnd c => exact eventTaken_keeps (effectIntervalEnd_keeps s c) h
    | effectLockout p => exact eventTaken_keeps (effectLockout_keeps s p) h
    | audioSamplePeriod ends => exact eventTaken_keeps (samplePeriod_keeps s ends) h
    | clipPassEnd v => exact eventTaken_keeps (clipPassEnd_keeps s v) h
    | fadeEnd v => exact eventTaken_keeps (fadeEnd_keeps s v) h
    | flashGrant => exact eventTaken_keeps (grantFlash_keeps s) h
    | refillSampleArrives a b => exact eventTaken_keeps (sampleArrives_keeps s a b) h
    | refillDone => exact eventTaken_keeps (refillEnds_keeps s) h
    | mountReadDone b => exact eventTaken_keeps (mountRead_keeps s b) h
    | startBit => exact eventTaken_keeps (gapStops_keeps s) h
    | _ => cases sender

end Sys2Proof.Machine
end

section
/-! The statements about every step and every row. -/

namespace Sys2Proof.Machine

-- One theorem at a time: each waits for the kernel, and many waiting at once are many threads.
set_option Elab.async false

/-! ## RESET -/

/-- What the release of RESET does to one port (R206). -/
theorem released_ports (s : State) (low : PerPort Bool) (pairs : PerAxis (Bool × Bool)) (p : Port) :
    (s.released low pairs).ports.get p = { s.ports.get p with waitRise := low.get p } := by
  cases p <;> rfl

theorem released_outside (s : State) (low : PerPort Bool) (pairs : PerAxis (Bool × Bool)) :
    SameBut [.framing, .route, .model] s (s.released low pairs) := by
  have records : Block.records.same s (s.released low pairs) := fun p => by rw [released_ports]; rfl
  have masks : Block.masks.same s (s.released low pairs) := fun p => by
    rw [released_ports]; exact ⟨rfl, rfl⟩
  intro b
  cases b with
  | framing | route | model => exact .inl (by decide)
  | records => exact .inr records
  | masks => exact .inr masks
  | _ => exact .inr rfl

theorem released_keeps (s : State) (low : PerPort Bool) (pairs : PerAxis (Bool × Bool)) :
    Keeps [.model] s (s.released low pairs) := by
  refine .outside (released_outside s low pairs) fun x touched => ?_
  cases x <;> simp [Part.blocks] at touched
  · exact .inr id
  · exact .inr id
  · exact .inl (by simp)

/-- The state at power-on satisfies what every step keeps (R205). -/
theorem reset_portsSound : State.reset.PortsSound := by
  intro p; cases p <;> exact ⟨by decide, by decide⟩

theorem reset_driveSafe : State.reset.DriveSafe := ⟨rfl, rfl, by decide, by decide⟩

theorem reset_permitSound : State.reset.PermitSound := fun held => absurd rfl held

theorem reset_channel (c : Fin 12) : State.reset.channel c = Channel.powerOn := by
  simp [State.channel, State.reset, EffectBank.powerOn]

theorem reset_pairsExclusive : State.reset.PairsExclusive := by
  intro p _ ⟨lower, _⟩
  rw [reset_channel] at lower
  cases lower

theorem reset_bounded : State.reset.Bounded :=
  ⟨by decide, by decide, List.Pairwise.nil, by decide⟩

theorem reset_rampsRising : State.reset.RampsRising := ⟨by decide, by decide, by decide⟩

theorem reset_runsShaped : State.reset.RunsShaped := by
  rw [runsShaped_iff]
  refine ⟨motionShaped_stopped rfl rfl (by decide) rfl rfl rfl rfl (by decide) rfl, ?_⟩
  exact turnShaped_runEnded Turntable.powerOn

theorem reset_voice (v : Fin 6) : State.reset.voice v = Voice.powerOn := by
  simp [State.voice, State.reset, SoundUnit.powerOn]

theorem reset_streamSound : State.reset.StreamSound := by
  refine ⟨fun v => ?_, fun r h => ?_, fun m => ?_, List.Pairwise.nil⟩
  · simp only [State.clipOn, reset_voice]
    exact ⟨by decide, rfl, by decide, by decide, rfl, by decide⟩
  · cases h
  · cases m

theorem reset_settingsInForce : State.reset.SettingsInForce := by
  refine ⟨by decide, by decide, fun i => by cases i <;> decide, by decide, by decide⟩

theorem row_of_resets {c : Instr} (h : Instr.resets c = true) :
    c = .powerOnReset ∨ ∃ low pairs, c = .resetRelease low pairs := by
  unfold Instr.resets at h
  split at h
  · exact .inl rfl
  · exact .inr ⟨_, _, rfl⟩
  · cases h

/-- What every step keeps holds at power-on, and every row keeps it. -/
theorem exec_maintains {c : Instr} {s t : State} (h : exec c s = .next t) {P : State → Prop} {x : Part}
    (kept : x.kept s t = (P s → P t)) (keepable : x ∉ rowMoves c ∧ x ≠ .model)
    (power : P s.powerOn) (sound : P s) : P t := by
  cases resets : Instr.resets c with
  | false =>
    have k := (exec_keeps resets h).part x keepable.1
    rw [kept] at k
    exact k sound
  | true =>
    obtain rfl | ⟨low, pairs, rfl⟩ := row_of_resets resets
    · cases h; exact power
    · cases h
      split at kept
      · have k := (released_keeps s low pairs).part x (by simpa using keepable.2)
        rw [if_pos ‹_›]
        rw [kept] at k
        exact k sound
      · rw [if_neg ‹_›]; exact sound

/-- The invariants that no row breaks. -/
def Part.invariant : Part → Bool
  | .ports | .drive | .permit | .shaped | .stream | .bounded | .rising | .force | .pairs => true
  | _ => false

theorem moved_of_mem_rowMoves {c : Instr} : ∀ x ∈ rowMoves c, x.invariant = false ∧ x ≠ .model := by
  suffices all : (rowMoves c).all (fun x => decide (x.invariant = false ∧ x ≠ .model)) = true from
    fun x moved => of_decide_eq_true (List.all_eq_true.mp all x moved)
  have writes (p : Port) (n : Nat) :
      (writeMoves p n).all (fun x => decide (x.invariant = false ∧ x ≠ .model)) = true := by
    unfold writeMoves; split <;> rfl
  cases c with
  | writeSetting | writeFittedSeatCount => exact writes _ _
  | clearMotionFault p | clearSeatFault p | concur p | byteSlot p => cases p <;> rfl
  | _ => rfl

theorem invariant_kept {x : Part} (h : x.invariant = true) (c : Instr) : x ∉ rowMoves c ∧ x ≠ .model := by
  refine ⟨fun moved => ?_, by rintro rfl; cases h⟩
  have broken := (moved_of_mem_rowMoves x moved).1
  rw [h] at broken
  cases broken

/-- One step from a state with an invariant: the front command from the rest of the queue. -/
theorem step_maintains {s t : State} (h : step s = .next t) {P : State → Prop} {x : Part}
    (kept : ∀ u v, x.kept u v = (P u → P v)) (invariant : x.invariant = true)
    (power : ∀ u : State, P u.powerOn) (queue : ∀ rest, P s → P { s with pending := rest })
    (sound : P s) : P t := by
  unfold step at h
  split at h
  · cases h; exact sound
  · next c rest _ =>
    exact exec_maintains h (kept _ _) (invariant_kept invariant c) (power _) (queue rest sound)

/-- Settles O54: no row breaks it, and power-on has it. -/
theorem stepsKeepPortsSound : Obligations.StepsKeepPortsSound := by
  intro s t sound h
  exact step_maintains h (x := .ports) (fun _ _ => rfl) rfl (fun _ => reset_portsSound) (fun _ => id) sound

/-- Settles O55: no row breaks it, and power-on has it. -/
theorem stepsKeepDriveSafe : Obligations.StepsKeepDriveSafe := by
  intro s t sound h
  exact step_maintains h (x := .drive) (fun _ _ => rfl) rfl (fun _ => reset_driveSafe) (fun _ => id) sound

/-- Settles O56: no row breaks it, and power-on has it. -/
theorem stepsKeepPermitSound : Obligations.StepsKeepPermitSound := by
  intro s t sound h
  exact step_maintains h (x := .permit) (fun _ _ => rfl) rfl (fun _ => reset_permitSound) (fun _ => id) sound

/-- Settles O57: no row breaks it, and power-on has it. -/
theorem stepsKeepRunsShaped : Obligations.StepsKeepRunsShaped := by
  intro s t sound h
  exact step_maintains h (x := .shaped) (fun _ _ => rfl) rfl (fun _ => reset_runsShaped) (fun _ => id) sound

/-- Settles O58: no row breaks it, and power-on has it. -/
theorem stepsKeepStreamSound : Obligations.StepsKeepStreamSound := by
  intro s t sound h
  exact step_maintains h (x := .stream) (fun _ _ => rfl) rfl (fun _ => reset_streamSound) (fun _ => id) sound

/-- Settles O59: the three invariants one by one, each kept by every row and had at power-on. -/
theorem stepsKeepTablesInBounds : Obligations.StepsKeepTablesInBounds := by
  intro s t bounded rising h
  refine ⟨?_, ?_, fun force => ?_⟩
  · exact step_maintains h (x := .bounded) (fun _ _ => rfl) rfl (fun _ => reset_bounded) (fun _ => id) bounded
  · exact step_maintains h (x := .rising) (fun _ _ => rfl) rfl (fun _ => reset_rampsRising) (fun _ => id) rising
  · exact step_maintains h (x := .force) (fun _ _ => rfl) rfl (fun _ => reset_settingsInForce) (fun _ => id) force

/-- Settles O60: no row breaks it, and power-on has it. -/
theorem stepsKeepPairsExclusive : Obligations.StepsKeepPairsExclusive := by
  intro s t sound h
  exact step_maintains h (x := .pairs) (fun _ _ => rfl) rfl (fun _ => reset_pairsExclusive) (fun _ => id) sound

/-! ## Rows -/

/-- Settles O1, by the two cases of the queue. -/
theorem stepRunsFrontCommand : Obligations.StepRunsFrontCommand := by
  refine ⟨fun c rest s front => ?_, fun s empty => ?_⟩
  · rw [step, front]
  · rw [step, empty]

/-- A row other than the two of RESET, under RESET, is no effect (R205). -/
theorem exec_reset {c : Instr} {s : State} (row : Instr.resets c = false) (h : s.inReset = true) :
    exec c s = .next s := by
  cases sender : c.sender with
  | some p => rw [exec_eq_commandTaken sender, commandTaken_reset h]
  | none =>
    cases c with
    | powerOnReset | resetRelease => cases row
    | unknownCode p code => exact eventTaken_reset (f := fun s => (s.unknown p code).onPort p (·.slotBegun)) h
    | byteSlot p b pins =>
      exact eventTaken_reset
        (f := fun s => ((s.withPins pins).byteReceived p b pins).onPort p (·.slotBegun)) h
    | _ => first | exact eventTaken_reset h | cases sender

/-- Every row answers a next state. -/
theorem exec_next (c : Instr) (s : State) : ∃ t, exec c s = .next t := by
  cases sender : c.sender with
  | some p => rw [exec_eq_commandTaken sender]; exact ⟨_, rfl⟩
  | none => cases c with
    | _ => exact ⟨_, rfl⟩

/-- Settles O2: the two rows of RESET by their definitions, every other by what it keeps. -/
theorem everyCommandCompletes : Obligations.EveryCommandCompletes := by
  intro c s
  cases resets : Instr.resets c with
  | false =>
    obtain ⟨t, next⟩ := exec_next c s
    obtain ⟨inReset, pending⟩ := (exec_keeps resets next).part .model fun moved =>
      (moved_of_mem_rowMoves _ moved).2 rfl
    refine ⟨t, next, pending, ?_⟩
    split
    · cases resets
    · cases resets
    · exact inReset
  | true =>
    obtain rfl | ⟨low, pairs, rfl⟩ := row_of_resets resets
    · exact ⟨_, rfl, rfl, rfl⟩
    · refine ⟨_, rfl, ?_⟩
      split
      · exact ⟨rfl, rfl⟩
      · next out => exact ⟨rfl, by simpa using out⟩

/-- Settles O3: every other row by its test of RESET, the release by its definition. -/
theorem resetLine : Obligations.ResetLine := by
  refine ⟨fun c s h => ?_, fun low pairs s => ⟨fun h => ?_, fun h => ?_⟩⟩
  · cases resets : Instr.resets c with
    | false =>
      have same := exec_reset resets h
      split <;> trivial
    | true =>
      obtain rfl | ⟨low, pairs, rfl⟩ := row_of_resets resets
      all_goals trivial
  · refine ⟨s.released low pairs, ?_, rfl, released_ports s low pairs, rfl, rfl, rfl,
      released_outside s low pairs⟩
    simp [execResetRelease, h]
  · simp [execResetRelease, h]

/-- Settles O5: a setting is read from the settings and the ports' masks, which every other row keeps. -/
theorem settingsChangeOnlyByWrites : Obligations.SettingsChangeOnlyByWrites := by
  have value {s t : State} (settings : t.settings = s.settings) (masks : Block.masks.same s t)
      (st : Setting) : st.value t = st.value s := by
    cases st <;> simp only [Setting.value, settings, masks _]
  intro c s t h
  cases resets : Instr.resets c with
  | true =>
    obtain rfl | ⟨low, pairs, rfl⟩ := row_of_resets resets
    · trivial
    · show ∀ st : Setting, st.value t = st.value s
      cases h
      by_cases reset : s.inReset = true
      · obtain ⟨settings, masks⟩ := (released_keeps s low pairs).part .settings (by decide)
        rw [if_pos reset]
        exact value settings masks
      · rw [if_neg reset]
        exact fun _ => rfl
  | false =>
    by_cases moved : .settings ∈ rowMoves c
    · unfold rowMoves at moved
      split at moved
      all_goals first
        | trivial
        | simp [mem_onlyB] at moved
    · obtain ⟨settings, masks⟩ := (exec_keeps resets h).part .settings moved
      have kept := value settings masks
      split <;> trivial

end Sys2Proof.Machine
end

section
/-! Grants and faults, the power-on reset, the settings table and the output lines. -/

namespace Sys2Proof.Machine

-- One theorem at a time: each waits for the kernel, and many waiting at once are many threads.
set_option Elab.async false

/-- A row whose exceptions do not name a part keeps it; so does the release of RESET. -/
theorem exec_part {c : Instr} {s t : State} (h : exec c s = .next t) {x : Part} (quiet : x ∉ rowMoves c)
    (model : x ≠ .model) (row : c ≠ .powerOnReset) : x.kept s t := by
  cases resets : Instr.resets c with
  | false => exact (exec_keeps resets h).part x quiet
  | true =>
    obtain rfl | ⟨low, pairs, rfl⟩ := row_of_resets resets
    · exact absurd rfl row
    · cases h
      split
      · exact (released_keeps s low pairs).part x (by simpa using model)
      · exact (Keeps.refl (e := []) s).part x (by simp)

/-- A Write Setting moves settings, and the seats if it writes their count. -/
theorem not_mem_writeMoves {p : Port} {n : Nat} {x : Part} (settings : x ≠ .settings)
    (count : x = .seatFault → ¬ (p = .a ∧ n = 80)) : x ∉ writeMoves p n := by
  unfold writeMoves
  split
  · next named => simpa [settings] using fun h => count h named
  · simpa using settings

/-- The rows that may grant the permit. -/
theorem row_of_grant {c : Instr} (h : .grant ∈ rowMoves c) :
    (∃ g m, c = .concur .b g m) ∨ ∃ b pins, c = .byteSlot .b b pins := by
  unfold rowMoves at h
  split at h
  case h_1 | h_2 => exact absurd h (not_mem_writeMoves nofun nofun)
  all_goals simp [mem_onlyB] at h
  all_goals simp [h]

/-- The rows that may end a motion fault, but for the power-on reset. -/
theorem row_of_fault {c : Instr} (h : .fault ∈ rowMoves c) :
    c = .clearMotionFault .b ∨ ∃ b pins, c = .byteSlot .b b pins := by
  unfold rowMoves at h
  split at h
  case h_1 | h_2 => exact absurd h (not_mem_writeMoves nofun nofun)
  all_goals simp [mem_onlyB] at h
  all_goals simp [h]

/-- The rows that may end a seat's fault, but for the power-on reset. -/
theorem row_of_seatFault {c : Instr} (h : .seatFault ∈ rowMoves c) :
    (∃ m, c = .clearSeatFault .b m) ∨ (∃ p b pins, c = .byteSlot p b pins)
      ∨ (∃ v, c = .writeFittedSeatCount .a v) ∨ ∃ n v, c = .writeSetting .a n v ∧ n.toNat = 80 := by
  have written {p : Port} {n : Nat} (h : .seatFault ∈ writeMoves p n) : p = .a ∧ n = 80 := by
    by_contra other
    exact not_mem_writeMoves (x := .seatFault) nofun (fun _ => other) h
  unfold rowMoves at h
  split at h
  case h_1 p n v => obtain ⟨rfl, count⟩ := written h; exact .inr (.inr (.inr ⟨n, v, rfl, count⟩))
  case h_2 p v => obtain ⟨rfl, -⟩ := written h; exact .inr (.inr (.inl ⟨v, rfl⟩))
  all_goals simp [mem_onlyB] at h
  all_goals simp [h]

/-- Settles O6: the three parts that a walk over the rows keeps, outside the rows that move them. -/
theorem grantsAndFaultsLatch : Obligations.GrantsAndFaultsLatch := by
  refine ⟨fun c s t h refused => ?_, fun c s t h => ⟨fun faulted => ?_, fun i fault => ?_⟩⟩
  · by_cases moved : .grant ∈ rowMoves c
    · obtain ⟨g, m, rfl⟩ | ⟨b, pins, rfl⟩ := row_of_grant moved
      all_goals trivial
    · have kept : t.permit.state ≠ .granted := by
        by_cases power : c = .powerOnReset
        · subst power; cases h; exact fun granted => nomatch granted
        · exact exec_part h moved nofun power refused
      split <;> trivial
  · by_cases moved : .fault ∈ rowMoves c
    · obtain rfl | ⟨b, pins, rfl⟩ := row_of_fault moved
      all_goals trivial
    · by_cases power : c = .powerOnReset
      · subst power; trivial
      · have kept := exec_part h moved nofun power faulted
        split <;> trivial
  · by_cases moved : .seatFault ∈ rowMoves c
    · obtain ⟨m, rfl⟩ | ⟨p, b, pins, rfl⟩ | ⟨v, rfl⟩ | ⟨n, v, rfl, count⟩ := row_of_seatFault moved
      · trivial
      · trivial
      · trivial
      · exact .inl count
    · by_cases power : c = .powerOnReset
      · subst power; trivial
      · have kept := exec_part h moved nofun power i fault
        split <;> first | trivial | exact kept | exact .inr kept

/-! ## The power-on values -/

/-- A setting's value is read from the settings and the ports' masks. -/
theorem Setting.value_congr {s t : State} (settings : t.settings = s.settings)
    (masks : Block.masks.same s t) (st : Setting) : st.value t = st.value s := by
  cases st <;> simp only [Setting.value, settings, masks _]

theorem powerOn_ports (s : State) (p : Port) : s.powerOn.ports.get p = PortState.powerOn := by
  cases p <;> rfl

theorem powerOn_value (s : State) (st : Setting) : st.value s.powerOn = st.value State.reset :=
  Setting.value_congr rfl (fun p => by cases p <;> exact ⟨rfl, rfl⟩) st

theorem powerOn_plan (s : State) (i : Axis) : (s.powerOn.drive.plan.get i).due = 0 := by
  cases i <;> rfl

theorem powerOn_seat (s : State) (i : Fin 8) : s.powerOn.seat i = Seat.powerOn := by
  simp [State.seat, State.powerOn, State.reset, SeatMonitor.powerOn]

theorem powerOn_slot (s : State) (i : Fin 64) : s.powerOn.slot i = none := by
  simp [State.slot, State.powerOn, State.reset, CueEngine.powerOn]

/-- Settles O4: the values by the definition of the power-on reset, the invariants one by one. -/
theorem powerOnReset : Obligations.PowerOnReset := by
  refine ⟨fun s => ⟨s.powerOn, rfl, rfl, rfl, rfl, fun p => ?ports, ?values, ?rest⟩, reset_portsSound,
    reset_driveSafe, reset_permitSound, reset_pairsExclusive, reset_bounded, reset_rampsRising,
    reset_runsShaped, reset_streamSound, reset_settingsInForce⟩
  case ports => rw [powerOn_ports]; decide
  case values =>
    have same : (fun st : Setting => st.value s.powerOn) = fun st => st.value State.reset :=
      funext (powerOn_value s)
    rw [same]
    decide
  have channel (c : Fin 12) : s.powerOn.channel c = Channel.powerOn := reset_channel c
  have voice (v : Fin 6) : s.powerOn.voice v = Voice.powerOn := reset_voice v
  simp only [powerOn_plan, powerOn_seat, powerOn_slot, channel, voice, implies_true]
  have results (i : Fin 8) : s.powerOn.permit.results[i]'i.isLt = none := by
    simp [State.powerOn, State.reset, Permit.powerOn]
  have conflicts (p : Fin 6) : s.powerOn.effects.conflicts[p]'p.isLt = 0 := by
    simp [State.powerOn, State.reset, EffectBank.powerOn]
  have zones (z : Fin 4) : s.powerOn.sound.zone[z]'z.isLt = ⟨128, 128, 0⟩ ∧ s.powerOn.sound.zoneClips[z]'z.isLt = 0
      ∧ s.powerOn.sound.formed[z]'z.isLt = 0 ∧ s.powerOn.sound.sent[z]'z.isLt = 0 := by
    simp [State.powerOn, State.reset, SoundUnit.powerOn]
  simp only [results, conflicts, zones]
  simp [State.powerOn, State.reset, RouteCounter.powerOn, MotionGenerator.powerOn, DriveUnit.powerOn,
    Turntable.powerOn, Seat.powerOn, SeatMonitor.powerOn, Permit.powerOn, CueEngine.powerOn,
    Channel.powerOn, EffectBank.powerOn, SoundUnit.powerOn, Voice.powerOn]

/-! ## The settings table -/

theorem settingOf_number (st : Setting) : settingOf st.number = some st := by
  cases st with
  | eventMask p | watchSet p => cases p <;> rfl
  | rampStep k | turntableStep k | announcementClip k => revert k; decide
  | _ => rfl

theorem stepInRange_iff (most : Nat) (x : RampStep) :
    stepInRange most x = true ↔ 1 ≤ x.rate ∧ x.rate ≤ most ∧ 1 ≤ x.length := by
  simp [stepInRange, and_assoc]

theorem inOrder_iff (rate : Nat → Nat) (n k new : Nat) : inOrder rate n k new = true ↔
    (0 < k → rate (k - 1) < new) ∧ (k + 1 < n → new < rate (k + 1)) := by
  simp [inOrder, Nat.pos_iff_ne_zero, imp_iff_or_not, or_comm]

theorem Setting.admitted_iff (st : Setting) (s : State) : st.admitted s = true ↔ match st with
    | .rampCount | .rampStep _ => s.motion.phase = .idle
    | .countsPerRevolution | .turntableStep _ => s.tt.phase = .idle
    | .fittedSeatCount => s.permit.state = .noPermit ∧ s.motion.phase = .idle
        ∧ ∀ i, (s.seat i).state ≠ .releasing
    | _ => True := by
  cases st <;> simp [Setting.admitted, and_assoc, mem_allSeats]

theorem Setting.clamped_iff (st : Setting) :
    st.clamped = true ↔ 129 ≤ st.number ∧ st.number ≤ 132 := by
  cases st with
  | eventMask p | watchSet p => cases p <;> decide
  | rampStep k | turntableStep k | announcementClip k => revert k; decide
  | _ => decide

theorem Setting.accepts_iff (st : Setting) (x : Settings) (v : Nat) :
    st.accepts x v = true ↔ match st with
      | .rampCount => 1 ≤ v ∧ v ≤ 16 ∧ ∀ k : Fin 15, k.val + 1 < v → x.rate k < x.rate (k + 1)
      | .rampStep k => 1 ≤ v / 65536 ∧ v / 65536 ≤ 30000 ∧ 1 ≤ v % 65536
          ∧ (k.val < x.rampCount →
            (0 < k.val → x.rate (k - 1) < v / 65536)
            ∧ (k.val + 1 < x.rampCount → v / 65536 < x.rate (k + 1)))
      | .turntableStep k => 1 ≤ v / 65536 ∧ v / 65536 ≤ 20000 ∧ 1 ≤ v % 65536
          ∧ (0 < k.val → x.turnRate (k - 1) < v / 65536)
          ∧ (k.val < 3 → v / 65536 < x.turnRate (k + 1))
      | _ => st.range.1 ≤ v ∧ v ≤ st.range.2 := by
  cases st with
  | rampCount =>
    simp only [Setting.accepts, Bool.and_eq_true, decide_eq_true_eq, increasing_iff, and_assoc]
    refine and_congr_right fun _ => and_congr_right fun most => ⟨fun h k => h k.val, fun h k below => ?_⟩
    exact h ⟨k, by omega⟩ below
  | rampStep k =>
    simp [Setting.accepts, stepInRange_iff, stepOf, inOrder_iff, and_assoc, imp_iff_not_or]
  | turntableStep k =>
    simp only [Setting.accepts, stepInRange_iff, stepOf, inOrder_iff, and_assoc, Bool.and_eq_true,
      Nat.add_lt_iff_lt_sub_right]
  | _ => simp [Setting.accepts]

/-- Settles O11: the numbers both ways, the table row by row, and each test by what it says. -/
theorem settingsTable : Obligations.SettingsTable :=
  ⟨settingOf_number, fun _ _ => number_of_settingOf, by decide, by decide, by decide,
    fun st v s => ⟨st.admitted_iff s, st.clamped_iff, st.accepts_iff s.settings v.toNat⟩⟩

end Sys2Proof.Machine
end

section
/-! The output lines as functions of the state (R47, R108, R154, R160, R167, R185, R191, R205). -/

namespace Sys2Proof.Machine

-- One theorem at a time: each waits for the kernel, and many waiting at once are many threads.
set_option Elab.async false

/-! ## Bits of a number, most significant first -/

/-- The lowest bits of a number, each with its weight, give its residue. -/
theorem sum_testBit_range (x n : Nat) :
    (∑ k ∈ Finset.range n, if x.testBit k then 2 ^ k else 0) = x % 2 ^ n := by
  induction n with
  | zero => simp [Nat.mod_one]
  | succ n ih =>
    rw [Finset.sum_range_succ, ih, Nat.mod_pow_succ, Nat.testBit_eq_decide_div_mod_eq]
    rcases Nat.mod_two_eq_zero_or_one (x / 2 ^ n) with bit | bit <;> simp [bit]

/-- The same sum from the most significant bit down. -/
theorem sum_testBit (x n : Nat) :
    (∑ j : Fin n, if x.testBit (n - 1 - j) then 2 ^ (n - 1 - j.val) else 0) = x % 2 ^ n := by
  rw [Fin.sum_univ_eq_sum_range (fun j => if x.testBit (n - 1 - j) then 2 ^ (n - 1 - j) else 0) n]
  rw [Finset.sum_range_reflect fun k => if x.testBit k then 2 ^ k else 0]
  exact sum_testBit_range x n

/-- A bit of the first byte of a list. -/
theorem bitOf_head (b : Byte) (l : List Byte) {i : Nat} (h : i < 8) :
    bitOf (b :: l) i = b.getLsbD (7 - i) := by
  rw [bitOf, Nat.div_eq_of_lt h, Nat.mod_eq_of_lt h]
  rfl

/-- A bit after the first byte of a list. -/
theorem bitOf_tail (b : Byte) (l : List Byte) (i : Nat) : bitOf (b :: l) (8 + i) = bitOf l i := by
  rw [bitOf, show (8 + i) / 8 = i / 8 + 1 by omega, show (8 + i) % 8 = i % 8 by omega]
  rfl

/-- No bits follow the last byte. -/
theorem bitOf_past (l : List Byte) {i : Nat} (h : 8 * l.length ≤ i) : bitOf l i = false := by
  rw [bitOf, List.getD_eq_default _ _ (by omega)]
  simp

theorem length_numBytes (n x : Nat) : (numBytes n x).length = n := by
  induction n generalizing x with
  | zero => rfl
  | succ n ih => simp [numBytes, ih]

/-- The bits of a number's bytes, from its most significant bit down. -/
theorem bitOf_numBytes (n x : Nat) {i : Nat} (h : i < 8 * n) :
    bitOf (numBytes n x) i = x.testBit (8 * n - 1 - i) := by
  induction n generalizing x with
  | zero => omega
  | succ n ih =>
    rw [numBytes]
    by_cases before : i < 8 * n
    · have same : bitOf (numBytes n (x / 256) ++ [BitVec.ofNat 8 x]) i = bitOf (numBytes n (x / 256)) i := by
        rw [bitOf, bitOf, List.getD_append _ _ _ _ (by rw [length_numBytes]; omega)]
      rw [same, ih _ before, show (256 : Nat) = 2 ^ 8 by rfl, Nat.testBit_div_two_pow]
      congr 1
      omega
    · have last : bitOf (numBytes n (x / 256) ++ [BitVec.ofNat 8 x]) i
          = (BitVec.ofNat 8 x).getLsbD (7 - i % 8) := by
        rw [bitOf, List.getD_append_right _ _ _ _ (by rw [length_numBytes]; omega), length_numBytes,
          show i / 8 - n = 0 by omega]
        rfl
      rw [last, BitVec.getLsbD_ofNat, decide_eq_true (by omega), Bool.true_and]
      congr 1
      omega

/-! ## The lines -/

/-- A step line is high in a pulse: 8 to 12 µs into a slot that carries one (R47). -/
theorem Plan.level_iff (x : Plan) (t : Nat) (within : t < 1000000) :
    x.level t = true ↔ ∃ k, k < x.due ∧ k * 1000000 + 8000 * x.slots ≤ t * x.slots
      ∧ t * x.slots < k * 1000000 + 12000 * x.slots ∧ t * x.slots < (k + 1) * 1000000 := by
  simp only [Plan.level, Bool.and_eq_true, decide_eq_true_eq]
  generalize t * x.slots = n
  constructor
  · rintro ⟨⟨⟨slot, -⟩, low⟩, high⟩
    exact ⟨n / 1000000, slot, by omega, by omega, by omega⟩
  · rintro ⟨k, slot, low, high, inside⟩
    have k_eq : n / 1000000 = k := by omega
    exact ⟨⟨⟨by omega, within⟩, by omega⟩, by omega⟩

/-- A channel's output is on by its state (R154), in DIM by the carrier (R156). -/
theorem Channel.output_iff (us : Nat) (x : Channel) : x.output us = true ↔
    x.state = .steadyOn ∨ x.state = .pulseOn ∨ x.state = .burstOn ∨ x.state = .cycleOn
      ∨ (x.state = .dim
        ∧ x.running.any (fun p => decide (255 * us < 2000 * p.countOrDuty)) = true) := by
  unfold Channel.output
  cases state : x.state <;> simp [carrierLevel, Nat.mul_comm]

/-- Only an active channel's output is on. -/
theorem Channel.active_of_output {us : Nat} {x : Channel} (h : x.output us = true) :
    x.state.active = true := by
  unfold Channel.output at h
  cases state : x.state <;> simp [state, ChannelState.active] at h ⊢

/-- The sixteen data bits of a half of an audio frame (R185). -/
theorem audioBit_half (left right : Int) (second : Bool) {j : Nat} (h : j < 25) :
    audioBit left right ((if second then 25 else 0) + j)
      = (decide (1 ≤ j) && decide (j ≤ 16)
        && (BitVec.ofInt 16 (if second then right else left)).getLsbD (16 - j)) := by
  cases second <;> simp [audioBit, h, Nat.mod_eq_of_lt h]

/-- A half of an audio frame carries its sample in two's complement (R185). -/
theorem sum_audioBit (left right x : Int) (second : Bool) (h : x = if second then right else left) :
    (∑ j : Fin 16, if audioBit left right ((if second then 25 else 0) + 1 + j) then 2 ^ (15 - j.val)
      else 0) = (x.emod 65536).toNat := by
  have bit (j : Fin 16) : audioBit left right ((if second then 25 else 0) + 1 + j)
      = (x.emod 65536).toNat.testBit (15 - j) := by
    rw [Nat.add_assoc, audioBit_half _ _ _ (by omega), ← h, decide_eq_true (by omega),
      decide_eq_true (by omega), show 16 - (1 + j.val) = 15 - j.val by omega]
    rfl
  simp only [bit]
  rw [sum_testBit _ 16]
  have small : (x.emod 65536).toNat < 65536 := by
    have := Int.emod_nonneg x (b := 65536) (by decide)
    have := Int.emod_lt_of_pos x (b := 65536) (by decide)
    change (x % 65536).toNat < 65536
    omega
  exact Nat.mod_eq_of_lt small

/-- The bits of 03h in the first byte of four. -/
theorem sum_codeBits :
    (∑ i : Fin 8, if (3 : Byte).getLsbD (7 - i) then 2 ^ (31 - i.val) else 0) = 0x03000000 := by
  simp [Fin.sum_univ_succ]

/-- The flash port sends 03h and the address (R167). -/
theorem sum_flashBits (r : FlashRead) :
    (∑ i : Fin 32, if bitOf r.command i then 2 ^ (31 - i.val) else 0)
      = 0x03000000 + r.address % 2 ^ 24 := by
  rw [FlashRead.command, beBytes]
  have address : ((r.address : Int).emod (256 ^ 3)).toNat = r.address % 2 ^ 24 := by
    change ((r.address : Int) % (256 ^ 3)).toNat = _
    omega
  have code (i : Fin 8) : bitOf (3 :: numBytes 3 (r.address % 2 ^ 24)) (Fin.castAdd 24 i).val
      = (3 : Byte).getLsbD (7 - i) := bitOf_head _ _ i.isLt
  have codeWeight (i : Fin 8) : 31 - (Fin.castAdd 24 i).val = 31 - i.val := rfl
  have rest (i : Fin 24) : bitOf (3 :: numBytes 3 (r.address % 2 ^ 24)) (Fin.natAdd 8 i).val
      = (r.address % 2 ^ 24).testBit (24 - 1 - i) := by
    rw [Fin.val_natAdd, bitOf_tail, bitOf_numBytes _ _ (by omega)]
  have restWeight (i : Fin 24) : 31 - (Fin.natAdd 8 i).val = 24 - 1 - i.val := by
    rw [Fin.val_natAdd]; omega
  rw [address, Fin.sum_univ_add (a := 8) (b := 24)]
  simp only [code, codeWeight, rest, restWeight]
  rw [sum_testBit, Nat.mod_mod, sum_codeBits]

theorem length_command (r : FlashRead) : r.command.length = 4 := by
  simp [FlashRead.command, beBytes, length_numBytes]

/-- A solenoid is off once the Seat Monitor is told of drive enable; else its drive sets it (R108). -/
theorem State.solenoid_iff (s : State) (i : Fin 8) {t : Nat} (within : t < 1000000) :
    t * 16 < s.solenoidSixteenths i * 1000000 ↔ s.seats.driveTold = false
      ∧ ((s.seat i).solenoid = .pullIn
        ∨ ((s.seat i).solenoid = .hold ∧ 16 * t < (s.seat i).holdLevel * 1000000)) := by
  unfold State.solenoidSixteenths
  cases s.seats.driveTold <;> cases (s.seat i).solenoid <;> simp <;> omega

/-- The eight bits of SDO in a slot (R191). -/
theorem sum_sdoBits (x : Byte) :
    (∑ k : Fin 8, if x.getLsbD (7 - k) then 2 ^ (7 - k.val) else 0) = x.toNat := by
  have sum := sum_testBit x.toNat 8
  rw [Nat.mod_eq_of_lt x.isLt] at sum
  exact sum

/-- The halves of an audio frame in service: sixteen data bits, and low bits around them (R185). -/
theorem audio_live {s : State} (live : s.inReset = false) (rear second : Bool) (x : Int)
    (sample : x = match rear, second with
      | false, false => s.sound.sent[0]'(by decide) | false, true => s.sound.sent[1]'(by decide)
      | true, false => s.sound.sent[2]'(by decide) | true, true => s.sound.sent[3]'(by decide)) :
    (∑ j : Fin 16, if s.audioOut rear ((if second then 25 else 0) + 1 + j) then 2 ^ (15 - j.val) else 0)
        = (x.emod 65536).toNat
      ∧ ∀ j : Fin 25, s.audioSelect ((if second then 25 else 0) + j) = second
        ∧ (j = 0 ∨ 16 < j.val → s.audioOut rear ((if second then 25 else 0) + j) = false) := by
  have out (i : Nat) : s.audioOut rear i
      = audioBit (if rear then s.sound.sent[2]'(by decide) else s.sound.sent[0]'(by decide))
          (if rear then s.sound.sent[3]'(by decide) else s.sound.sent[1]'(by decide)) i := by
    rw [State.audioOut, line_released _ _ live]
    cases rear <;> rfl
  simp only [out]
  refine ⟨sum_audioBit _ _ x second ?_, fun j => ⟨?_, fun low => ?_⟩⟩
  · cases rear <;> cases second <;> exact sample
  · rw [State.audioSelect, line_released _ _ live]
    cases second <;> simp
  · rw [audioBit_half _ _ _ j.isLt]
    rcases low with rfl | high
    · simp
    · simp [Nat.not_le.mpr high]

/-- The lines of the flash port in service (R167). -/
theorem flash_live {s : State} (live : s.inReset = false) :
    match s.sound.flash with
    | none => s.flashSelect = true ∧ ∀ i risen, s.flashClock i risen = false ∧ s.flashOut i = false
    | some r => s.flashSelect = false
      ∧ (∀ i risen, s.flashClock i risen = (risen && decide (i < 32 + 8 * r.bytes)))
      ∧ (∑ i : Fin 32, if s.flashOut i then 2 ^ (31 - i.val) else 0) = 0x03000000 + r.address % 2 ^ 24
      ∧ ∀ i, 32 ≤ i → s.flashOut i = false := by
  simp only [State.flashSelect, State.flashClock, State.flashOut, line_released _ _ live]
  cases s.sound.flash with
  | none => simp
  | some r =>
    refine ⟨rfl, fun i risen => ?_, sum_flashBits r, fun i past => ?_⟩
    · rw [Option.any_some, FlashRead.bits, Nat.mul_add, Bool.and_comm]
    · exact bitOf_past _ (by rw [length_command]; omega)

/-- SDO is driven while CS is low, then with the bits of its byte (R191). -/
theorem sdo_live {s : State} (live : s.inReset = false) (p : Port) :
    if (s.ports.get p).framer = .deselected ∧ (s.ports.get p).waitRise = false then
      ∀ k, s.sdoLine p k = none
    else (∑ k : Fin 8, if s.sdoLine p k = some true then 2 ^ (7 - k.val) else 0)
        = (s.ports.get p).sdo.toNat ∧ ∀ k, s.sdoLine p k ≠ none := by
  have line (k : Fin 8) : s.sdoLine p k
      = if (s.ports.get p).framer = .deselected ∧ (s.ports.get p).waitRise = false then none
        else some ((s.ports.get p).sdo.getLsbD (7 - k)) := by
    simp only [State.sdoLine, live, PortState.csLow]
    cases (s.ports.get p).framer <;> cases (s.ports.get p).waitRise <;> rfl
  simp only [line]
  split
  · simp
  · simp [sum_sdoBits]

/-- Of an exclusive pair never both outputs are on (R160). -/
theorem exclusive_outputs {s : State} (live : s.inReset = false) (exclusive : s.PairsExclusive) (q : Fin 6)
    (us : Nat) (paired : s.exclusive q = true) :
    s.effectOut (lowerOf q) us = false ∨ s.effectOut (upperOf q) us = false := by
  simp only [State.effectOut, line_released _ _ live]
  by_contra both
  simp only [not_or, Bool.not_eq_false] at both
  exact exclusive q paired ⟨Channel.active_of_output both.1, Channel.active_of_output both.2⟩

/-- Settles O53: each line by its lemma in service, and every line's level under RESET. -/
theorem outputLines : Obligations.OutputLines := by
  refine ⟨fun s live => ?_, fun s reset => ?_⟩
  · refine ⟨fun i t within => ?_, fun i => ?_, ?_, ?_, fun i t within => ?_, fun i us => ?_,
      exclusive_outputs live, audio_live live, fun risen => ?_, flash_live live,
      fun p => ⟨?_, sdo_live live p⟩⟩
    · rw [State.stepOut, line_released _ _ live]
      exact Plan.level_iff _ t within
    · simp [State.directionOut, live]
    · exact line_released _ _ live
    · exact line_released _ _ live
    · rw [State.solenoidOut, line_released _ _ live, decide_eq_true_iff]
      exact s.solenoid_iff i within
    · rw [State.effectOut, line_released _ _ live]
      exact Channel.output_iff us _
    · exact line_released _ _ live
    · exact line_released _ _ live
  · simp [State.enableOut, State.brakeOut, State.stepOut, State.directionOut, State.solenoidOut,
      State.effectOut, State.flashSelect, State.flashClock, State.flashOut, State.audioClock,
      State.audioSelect, State.audioOut, State.sdoLine, State.attnLine, reset, State.line]

end Sys2Proof.Machine
end

section
/-! Frames and bytes of the command ports (R192, R194 to R196, R206). -/

namespace Sys2Proof.Machine

-- One theorem at a time: each waits for the kernel, and many waiting at once are many threads.
set_option Elab.async false

/-! ## Frames -/

/-- A change of one port alone leaves the framing of the others. -/
theorem onPort_othersFraming (s : State) (p : Port) (f : PortState → PortState) :
    OthersFraming p s (s.onPort p f) := by
  intro q other
  simp [other]

theorem OthersFraming.trans {p : Port} {s t u : State} (h : OthersFraming p s t)
    (k : OthersFraming p t u) : OthersFraming p s u := fun q other => (k q other).trans (h q other)

theorem refuse_othersFraming (s : State) (p q : Port) (r : Reason) (code : Byte) :
    OthersFraming q s (s.refuse p r code) := fun _ _ => refuse_kept s p r code _

/-- A change that leaves its port as it is changes nothing. -/
theorem onPort_self {s : State} {p : Port} {f : PortState → PortState}
    (same : f (s.ports.get p) = s.ports.get p) : s.onPort p f = s := by
  have ports : s.ports.modify f p = s.ports := by
    cases p <;> simp only [PerPort.modify, PerPort.get] at same ⊢ <;> rw [same]
  rw [State.onPort, State.onPorts, ports]

/-- The port of a refused byte or command is otherwise what it was (R196). -/
theorem refuse_port (s : State) (p : Port) (r : Reason) (code : Byte) :
    (s.refuse p r code).ports.get p
      = { s.ports.get p with lastRefusal := some ⟨r, code⟩ }.latch .refused := by
  simp

theorem frameEnded_outside (s : State) (p : Port) :
    SameBut [.framing] s (s.onPort p (·.frameEnded)) :=
  onPort_framing_outside s p _ (fun _ => rfl) (fun _ => rfl) (fun _ => rfl)

/-- FRAME_START begins a frame on a port that can take one, and has no effect on any other. -/
theorem exec_frameStart_next (p : Port) (s : State) (h : s.inReset = false) :
    ∃ t, exec (.frameStart p) s = .next t ∧ SameBut [.framing] s t ∧ OthersFraming p s t
      ∧ if (s.ports.get p).framer = .deselected ∧ (s.ports.get p).waitRise = false then
          (t.ports.get p).framer = .awaitCode ∧ (t.ports.get p).inProgress = none
          ∧ (t.ports.get p).waitRise = false
          ∧ ((s.ports.get p).response = none →
              (t.ports.get p).response = none ∧ (t.ports.get p).sdo = 0)
        else t = s := by
  have outside : SameBut [.framing] s (s.onPort p (·.frameBegun)) := by
    refine onPort_framing_outside s p _ (fun x => ?_) (fun x => ?_) (fun x => ?_) <;>
      unfold PortState.frameBegun <;> split
    · exact record_slotBegun _
    · rfl
    · exact mask_slotBegun _
    · rfl
    · exact watch_slotBegun _
    · rfl
  refine ⟨_, eventTaken_next h, outside, onPort_othersFraming _ _ _, ?_⟩
  split
  · next free =>
    have begun : (s.onPort p (·.frameBegun)).ports.get p
        = { s.ports.get p with framer := .awaitCode, inProgress := none }.slotBegun := by
      simp [PortState.frameBegun, free]
    rw [begun]
    refine ⟨by simp, by simp, by simpa using free.2, fun empty => ?_⟩
    rw [slotBegun_of_empty (by simp) (by simpa using empty)]
    exact ⟨empty, rfl⟩
  · next busy =>
    have same : (s.ports.get p).frameBegun = s.ports.get p := by rw [PortState.frameBegun, if_neg busy]
    rw [onPort_self same]

/-- CS_RISE ends the wait of a port, or its frame (R195, R206). -/
theorem exec_csRise_next (p : Port) (s : State) (h : s.inReset = false) :
    ∃ t, exec (.csRise p) s = .next t ∧ OthersFraming p s t
      ∧ if (s.ports.get p).waitRise = true then
          SameBut [.framing] s t ∧ t.ports.get p = { s.ports.get p with waitRise := false }
        else
          (t.ports.get p).framer = .deselected ∧ (t.ports.get p).inProgress = none
          ∧ (t.ports.get p).response = none ∧ (t.ports.get p).waitRise = false
          ∧ match (s.ports.get p).framer, (s.ports.get p).inProgress with
            | .arguments, some c => RefusedOn p .incomplete c.code s t
            | _, _ => SameBut [.framing] s t := by
  refine ⟨_, eventTaken_next h, ?_⟩
  dsimp only [State.csRises]
  split
  · exact ⟨onPort_othersFraming _ _ _,
      onPort_framing_outside s p _ (fun _ => rfl) (fun _ => rfl) (fun _ => rfl), by simp⟩
  · next wait =>
    have quiet : SameBut [.framing] s (s.onPort p (·.frameEnded)) ∧ OthersFraming p s (s.onPort p (·.frameEnded))
        ∧ ((s.onPort p (·.frameEnded)).ports.get p).waitRise = false :=
      ⟨frameEnded_outside s p, onPort_othersFraming _ _ _, by simpa [PortState.frameEnded] using wait⟩
    obtain ⟨outside, others, noWait⟩ := quiet
    cases framer : (s.ports.get p).framer with
    | arguments =>
      cases progress : (s.ports.get p).inProgress with
      | none =>
        exact ⟨others, by simp [PortState.frameEnded], by simp [PortState.frameEnded],
          by simp [PortState.frameEnded], noWait, outside⟩
      | some c =>
        refine ⟨(refuse_othersFraming s p p _ _).trans (onPort_othersFraming _ _ _),
          by simp [PortState.frameEnded], by simp [PortState.frameEnded],
          by simp [PortState.frameEnded], ?_, ?_⟩
        · simpa [PortState.frameEnded, PortState.latch, PortState.rederiveAttn] using wait
        · exact RefusedOn.framed (SameBut_refl _ s) (refuse_refusedOn s p _ _) (frameEnded_outside _ p)
    | _ =>
      exact ⟨others, by simp [PortState.frameEnded], by simp [PortState.frameEnded],
        by simp [PortState.frameEnded], noWait, outside⟩

/-- Settles O7: the two rows one by one. -/
theorem framesBeginAndEnd : Obligations.FramesBeginAndEnd :=
  fun p s h => ⟨exec_frameStart_next p s h, exec_csRise_next p s h⟩

end Sys2Proof.Machine
end

section
/-! The bytes of the command ports (R192, R196, R201, log 22). -/

namespace Sys2Proof.Machine

-- One theorem at a time: each waits for the kernel, and many waiting at once are many threads.
set_option Elab.async false

section
variable (p : Port) (b : Byte) (pins : Pins) {s : State}

theorem slotBegun_outside (s : State) : SameBut [.framing] s (s.onPort p (·.slotBegun)) :=
  onPort_framing_outside s p _ (by simp) (by simp) (by simp)

theorem commandFramed_outside (s : State) : SameBut [.framing] s (s.onPort p (·.commandFramed)) :=
  onPort_framing_outside s p _ (by simp) (by simp) (by simp)

/-- A byte slot receives its byte and begins the next one (R191, R192). -/
theorem exec_byteSlot_next (h : s.inReset = false) : exec (.byteSlot p b pins) s
    = .next (((s.withPins pins).byteReceived p b pins).onPort p (·.slotBegun)) :=
  eventTaken_next (f := fun s => ((s.withPins pins).byteReceived p b pins).onPort p (·.slotBegun)) h

/-- A byte that completes no command and is no unknown code changes its port's framing alone. -/
theorem exec_byteSlot_framing (h : s.inReset = false) {f : PortState → PortState} {x : PortState}
    (received : (s.withPins pins).byteReceived p b pins = (s.withPins pins).onPort p f)
    (quiet : ∀ x, (f x).record = x.record ∧ (f x).mask = x.mask ∧ (f x).watch = x.watch)
    (becomes : f (s.ports.get p) = x) :
    ∃ t, exec (.byteSlot p b pins) s = .next t ∧ t.pins = pins ∧ OthersFraming p s t
      ∧ SameBut [.framing, .lines] s t ∧ (t.ports.get p).framer = x.framer
      ∧ (t.ports.get p).inProgress = x.inProgress := by
  refine ⟨_, exec_byteSlot_next p b pins h, ?_⟩
  rw [received]
  refine ⟨rfl, fun q other => by simp [other], ?_, by simp [becomes], by simp [becomes]⟩
  have framed := onPort_framing_outside (s.withPins pins) p f (fun x => (quiet x).1)
    (fun x => (quiet x).2.1) fun x => (quiet x).2.2
  exact SameBut_seq (SameBut_seq (c := [.framing, .lines]) (withPins_outside s pins) framed) (slotBegun_outside p _)

theorem byteReceived_ignored (h : (s.ports.get p).framer = .deselected ∨ (s.ports.get p).framer = .void) :
    s.byteReceived p b pins = s := by
  rcases h with h | h <;> simp [State.byteReceived, h]

theorem byteReceived_unknown (h : (s.ports.get p).framer = .awaitCode) (code : argumentCount b = none) :
    s.byteReceived p b pins = s.unknown p b := by
  simp [State.byteReceived, h, code]

theorem byteReceived_bare (h : (s.ports.get p).framer = .awaitCode) (code : argumentCount b = some 0) :
    s.byteReceived p b pins = takeBytes p pins b [] s := by
  simp [State.byteReceived, h, code]

theorem byteReceived_begins {n : Nat} (h : (s.ports.get p).framer = .awaitCode)
    (code : argumentCount b = some n) (owes : 0 < n) :
    s.byteReceived p b pins
      = s.onPort p fun x => { x with framer := .arguments, inProgress := some ⟨b, [], n⟩ } := by
  cases n with
  | zero => omega
  | succ n => simp [State.byteReceived, h, code]

theorem byteReceived_joins {c : CommandInProgress} (h : (s.ports.get p).framer = .arguments)
    (progress : (s.ports.get p).inProgress = some c) (owes : 0 < (c.joined b).owed) :
    s.byteReceived p b pins = s.onPort p fun x => { x with inProgress := some (c.joined b) } := by
  simp [State.byteReceived, h, progress, Nat.ne_of_gt owes]

theorem byteReceived_completes {c : CommandInProgress} (h : (s.ports.get p).framer = .arguments)
    (progress : (s.ports.get p).inProgress = some c) (whole : (c.joined b).owed = 0) :
    s.byteReceived p b pins = takeBytes p pins c.code (c.received ++ [b]) s := by
  simp only [State.byteReceived, h, progress, whole, if_true]
  rfl

end

/-- A byte joins a command (R192). -/
theorem joined_eq (b : Byte) (c : CommandInProgress) : c.joined b = ⟨c.code, c.received ++ [b], c.owed - 1
    + if c.code = 0x50 ∧ c.received.length = 11 ∧ 1 ≤ b.toNat ∧ b.toNat ≤ 4 then 10 * b.toNat else 0⟩ := by
  simp only [CommandInProgress.joined, actionBytes, Code.loadCue, List.length_append, List.length_singleton,
    Nat.reduceEqDiff, Bool.and_eq_true, decide_eq_true_eq]
  congr 2
  by_cases cue : c.code = 80#8 <;> by_cases count : c.received.length = 11 <;> simp [cue, count]

/-! ## Bytes that name nothing -/

section
variable {p : Port} {b : Byte} {pins : Pins} {s : State}

/-- The framing of a port whose frame a byte has voided, when the next slot begins (R194, R196). -/
theorem voided_slot {x : PortState} (h : x.framer ≠ .deselected) :
    x.voided = { x with framer := .void, inProgress := none } := by
  unfold PortState.voided
  split
  · next out => exact absurd out h
  · rfl

theorem voided_outside (s : State) (p : Port) : SameBut [.framing] s (s.onPort p (·.voided)) := by
  refine onPort_framing_outside s p _ ?_ ?_ ?_ <;> intro x <;> unfold PortState.voided <;> split <;> rfl

/-- UNKNOWN_CODE by R196: refused, the frame voided, and the response goes on. -/
theorem exec_unknownCode_next (p : Port) (code : Byte) (s : State) (h : s.inReset = false) :
    ∃ t, exec (.unknownCode p code) s = .next t ∧ RefusedOn p .unknown code s t
      ∧ OthersFraming p s t
      ∧ ((s.ports.get p).framer ≠ .deselected →
          (t.ports.get p).framer = .void ∧ (t.ports.get p).inProgress = none)
      ∧ ((s.ports.get p).framer ≠ .deselected →
          match (s.ports.get p).response with
          | none => (t.ports.get p).response = none ∧ (t.ports.get p).sdo = 0
          | some r =>
            match r.bytes[r.index]? with
            | some b => (t.ports.get p).sdo = b
                ∧ (t.ports.get p).response = some ⟨r.bytes, r.index + 1⟩
            | none => (t.ports.get p).sdo = 0 ∧ (t.ports.get p).response = none) := by
  refine ⟨_, eventTaken_next (f := fun s => (s.unknown p code).onPort p (·.slotBegun)) h, ?_, ?_, ?_⟩
  · exact RefusedOn.framed (SameBut_refl _ s) (refuse_refusedOn s p _ _)
      (SameBut_seq (voided_outside _ p) (slotBegun_outside p _))
  · exact ((refuse_othersFraming s p p _ _).trans (onPort_othersFraming _ p _)).trans
      (onPort_othersFraming _ p _)
  · have refused := refuse_kept s p .unknown code p
    generalize hx : (s.refuse p .unknown code).ports.get p = x at refused
    simp only [PortState.framing, Prod.mk.injEq] at refused
    obtain ⟨framer, -, response, -, -⟩ := refused
    have own : (((s.unknown p code).onPort p (·.slotBegun)).ports.get p) = x.voided.slotBegun := by
      simp [State.unknown, hx, -State.refuse_ports]
    rw [own, ← framer, ← response]
    refine ⟨fun inFrame => ?_, fun inFrame => ?_⟩
    · simp [voided_slot inFrame]
    · have same : x.voided.response = x.response := by rw [voided_slot inFrame]
      have frame : x.voided.framer ≠ .deselected := by simp [voided_slot inFrame]
      generalize x.voided = y at same frame
      rw [← same]
      cases going : y.response with
      | none => rw [slotBegun_of_empty frame going]; exact ⟨going, rfl⟩
      | some r =>
        cases sent : r.bytes[r.index]? with
        | none => rw [slotBegun_of_sent frame going sent]; simp [sent]
        | some b => rw [slotBegun_of_byte frame going sent]; simp [sent]

/-- The bytes of a whole command that name no row, after the test of rights (log 22). -/
theorem exec_byteSlot_unreadable (h : s.inReset = false) {c : CommandInProgress}
    (arguments : (s.ports.get p).framer = .arguments) (progress : (s.ports.get p).inProgress = some c)
    (whole : (c.joined b).owed = 0) (nothing : parseCommand p pins c.code (c.received ++ [b]) = none)
    {ports : List Port} (owners : ports = if c.code = Code.setEffect then [.c] else [.a, .c]) :
    ∃ t, exec (.byteSlot p b pins) s = .next t ∧ OthersFraming p s t
      ∧ (t.ports.get p).framer = .awaitCode ∧ (t.ports.get p).inProgress = none
      ∧ RefusedOn p (if p ∈ ports then .range else .rights) c.code (s.withPins pins) t := by
  refine ⟨_, exec_byteSlot_next p b pins h, ?_⟩
  rw [byteReceived_completes p b pins (s := s.withPins pins) arguments progress whole]
  have effect : takeBytes p pins c.code (c.received ++ [b]) (s.withPins pins)
      = ((s.withPins pins).onPort p (·.commandFramed)).refuse p
          (if p ∈ ports then .range else .rights) c.code := by
    simp only [takeBytes, nothing, takeUnreadable]
    rw [← owners]
    split
    · next mine => rw [allowed_yes mine]
    · next notMine => rw [allowed_no notMine]
  rw [effect]
  generalize (if p ∈ ports then Reason.range else .rights) = r
  have framed : (((((s.withPins pins).onPort p (·.commandFramed)).refuse p r c.code).onPort p
      (·.slotBegun)).ports.get p).framer = .awaitCode ∧ (((((s.withPins pins).onPort p
      (·.commandFramed)).refuse p r c.code).onPort p (·.slotBegun)).ports.get p).inProgress = none := by
    have kept := refuse_kept ((s.withPins pins).onPort p (·.commandFramed)) p r c.code p
    simp only [PortState.framing, Prod.mk.injEq] at kept
    obtain ⟨framer, progress, -⟩ := kept
    simp only [State.onPort_ports, PerPort_get_modify, if_true, framer_slotBegun, inProgress_slotBegun] at *
    rw [framer, progress]
    simp [commandFramed_of_decoding (.inr arguments)]
  refine ⟨?_, framed.1, framed.2, ?_⟩
  · exact ((onPort_othersFraming (s.withPins pins) p _).trans (refuse_othersFraming _ p p _ _)).trans
      (onPort_othersFraming _ p _)
  · exact RefusedOn.framed (commandFramed_outside p _) (refuse_refusedOn _ p _ _) (slotBegun_outside p _)

end

/-- Nine bytes of a Set Effect with an operation byte above 2 name no row. -/
theorem parseCommand_effect (p : Port) (pins : Pins) (l : List Byte) (b : Byte) (length : l.length = 8)
    (operation : 2 < (l.getD 1 0).toNat) : parseCommand p pins 0x60 (l ++ [b]) = none := by
  match l, length with
  | [c, o, m, t1, t0, o1, o0, n], _ =>
    have large : 2 < o.toNat := operation
    have noRow (x : PatternBytes) : effectRow p c o x = none := by
      unfold effectRow
      split
      · omega
      · omega
      · omega
      · rfl
    exact noRow _

/-- The byte of a Reset Section above 1 names no row. -/
theorem parseCommand_reset (p : Port) (pins : Pins) (b : Byte) (large : 1 < b.toNat) :
    parseCommand p pins 0x04 [b] = none := by
  have noRow : resetRow p b = none := by
    unfold resetRow
    split
    · omega
    · omega
    · rfl
  have short : shortRow p 0x04 [b] = none := noRow
  simp only [parseCommand, short]
  rfl

/-- Settles O8: the bytes that complete no command, the unknown code and Nop, and the bytes of no row. -/
theorem framerTakesBytes : Obligations.FramerTakesBytes := by
  refine ⟨fun p b pins s h => ⟨fun out => ?_, fun wait code => ?_, fun n wait code owes => ?_,
    fun c more arguments progress count owes => ?_⟩,
    fun p code s h => ⟨exec_unknownCode_next p code s h, ?_⟩,
    fun p b pins s h c arguments progress owed => ⟨fun code length operation => ?_,
      fun code none section_ => ?_⟩⟩
  · refine exec_byteSlot_framing p b pins h (f := id) ?_ (fun _ => ⟨rfl, rfl, rfl⟩) rfl
    rw [byteReceived_ignored p b pins (s := s.withPins pins) out, onPort_self rfl]
  · rw [exec_byteSlot_next p b pins h, byteReceived_unknown p b pins (s := s.withPins pins) wait code]
    exact (eventTaken_next (s := s.withPins pins) (f := fun s => (s.unknown p b).onPort p (·.slotBegun)) h).symm
  · exact exec_byteSlot_framing p b pins h
      (byteReceived_begins p b pins (s := s.withPins pins) wait code owes) (fun _ => ⟨rfl, rfl, rfl⟩) rfl
  · subst count
    have joined := joined_eq b c
    obtain ⟨t, next, lines, others, frame, framer, inProgress⟩ := exec_byteSlot_framing p b pins h
      (byteReceived_joins p b pins (s := s.withPins pins) arguments progress (by rw [joined]; exact owes))
      (fun _ => ⟨rfl, rfl, rfl⟩) rfl
    exact ⟨t, next, lines, others, frame, framer.trans arguments, by rw [inProgress, ← joined]⟩
  · refine ⟨_, commandTaken_next h, ?_⟩
    exact SameBut_seq (commandFramed_outside p s) (slotBegun_outside p _)
  · have whole : (c.joined b).owed = 0 := by rw [joined_eq]; simp [owed, code]
    obtain ⟨t, next, others, framer, inProgress, refused⟩ := exec_byteSlot_unreadable h arguments progress
      whole (by rw [code]; exact parseCommand_effect p pins _ b length operation) rfl
    refine ⟨t, next, others, framer, inProgress, ?_⟩
    rw [code] at refused
    simpa [Code.setEffect] using refused
  · have whole : (c.joined b).owed = 0 := by rw [joined_eq]; simp [owed, code]
    obtain ⟨t, next, others, framer, inProgress, refused⟩ := exec_byteSlot_unreadable h arguments progress
      whole (by rw [code, none]; exact parseCommand_reset p pins b section_) rfl
    refine ⟨t, next, others, framer, inProgress, ?_⟩
    rw [code] at refused
    cases p <;> simpa [Code.setEffect] using refused

end Sys2Proof.Machine
end

section
/-! The bodies of the responses in the encodings of R207. -/

namespace Sys2Proof.Machine

-- One theorem at a time: each waits for the kernel, and many waiting at once are many threads.
set_option Elab.async false

/-! ## Fields -/

theorem numBytes_fun (n : Nat) : numBytes n = fun (x : Nat) => bytesOf n x :=
  funext (numBytes_eq_bytesOf n)

theorem beBytes_fun (n : Nat) : beBytes n = bytesOf n := funext (beBytes_eq_bytesOf n)

theorem flagByte_fun : flagByte = yesNo := funext flagByte_eq_yesNo

theorem optBytes_fun {α : Type} (n : Nat) (f : α → List Byte) : optBytes n f = presentOf n f :=
  funext (optBytes_eq_presentOf n f f fun _ => rfl)

theorem listBytes_fun {α : Type} (f : α → List Byte) : listBytes f = countedOf f :=
  funext (listBytes_eq_countedOf f f fun _ => rfl)

/-- Numbers congruent modulo 256^n have the same `n` bytes. -/
theorem bytesOf_congr {n : Nat} {x y : Int} (h : x % 256 ^ n = y % 256 ^ n) :
    bytesOf n x = bytesOf n y := by
  rw [← bytesOf_emod n x, h, bytesOf_emod]

/-- A word's four bytes are those of its signed value. -/
theorem bytesOf_toNat (x : BitVec 32) : bytesOf 4 x.toNat = bytesOf 4 x.toInt := by
  apply bytesOf_congr
  rw [BitVec.toInt_eq_toNat_bmod]
  exact Int.bmod_emod.symm

/-- A difference of words as four bytes. -/
theorem bytesOf_sub (x y : BitVec 32) : bytesOf 4 (x - y).toInt = bytesOf 4 (x.toInt - y.toInt) := by
  apply bytesOf_congr
  rw [BitVec.toInt_sub]
  exact Int.bmod_emod

/-- The members of a fixed set one by one. -/
theorem each_eq {α : Type} (xs : List α) (f : α → List Byte) : each xs f = (xs.map f).flatten := by
  rw [each, List.flatMap_def]

theorem each_axes (f : Axis → List Byte) :
    each allAxes f = f .left ++ f .right ++ f .turntable := by
  simp [each, allAxes]

/-- A vector's members by their indices. -/
theorem each_vector {α : Type} {n : Nat} (v : Vector α n) (f : α → List Byte) :
    each v.toList f = ((List.finRange n).map fun i => f (v[i]'i.isLt)).flatten := by
  have members : v.toList = (List.finRange n).map fun i => v[i]'i.isLt := by
    apply List.ext_getElem <;> simp
  rw [each_eq, members, List.map_map]
  rfl

/-! ## Enumerated values -/

theorem enumByte_phase (x : Phase) : enumByte x.ctorIdx = placeOf [.idle, .pre, .accel, .cruise, .decel,
    .dwell, .holding, .held, .stopping, .post, .faulted] x := by cases x <;> rfl

theorem enumByte_travel (x : Travel) : enumByte x.ctorIdx = placeOf [.fwd, .rev] x := by cases x <;> rfl

theorem enumByte_markerKind (x : MarkerKind) : enumByte x.ctorIdx = placeOf [.correct, .check] x := by
  cases x <;> rfl

theorem enumByte_legOutcome (x : LegOutcome) :
    enumByte x.ctorIdx = placeOf [.done, .seekDone, .seekFailed] x := by cases x <;> rfl

theorem enumByte_faultCause (x : FaultCause) : enumByte x.ctorIdx = placeOf [.followLeft, .followRight,
    .followTurntable, .alarmLeft, .alarmRight, .alarmTurntable, .encoderLeft, .encoderRight,
    .encoderTurntable, .positionRange] x := by cases x <;> rfl

theorem enumByte_stopKind (x : StopKind) : enumByte x.ctorIdx = placeOf [.soft, .hard] x := by
  cases x <;> rfl

theorem enumByte_stopCause (x : StopCause) : enumByte x.ctorIdx
    = placeOf [.commandA, .commandB, .permitLost, .positionLost, .sectionReset] x := by cases x <;> rfl

theorem enumByte_turnPhase (x : TurnPhase) :
    enumByte x.ctorIdx = placeOf [.idle, .pre, .homing, .turning, .stopping] x := by cases x <;> rfl

theorem enumByte_turnMode (x : TurnMode) : enumByte x.ctorIdx = placeOf [.short, .fwd, .rev] x := by
  cases x <;> rfl

theorem enumByte_turnOutcome (x : TurnOutcome) :
    enumByte x.ctorIdx = placeOf [.done, .stopped, .cut] x := by cases x <;> rfl

theorem enumByte_homeOutcome (x : HomeOutcome) :
    enumByte x.ctorIdx = placeOf [.done, .limit, .permit, .cut] x := by cases x <;> rfl

theorem enumByte_permitState (x : PermitState) :
    enumByte x.ctorIdx = placeOf [.noPermit, .awaitingConcur, .granted] x := by cases x <;> rfl

theorem enumByte_checkResult (x : CheckResult) :
    enumByte x.ctorIdx = placeOf [.pass, .short, .notLocked, .fault] x := by cases x <;> rfl

theorem enumByte_lossCause (x : LossCause) : enumByte x.ctorIdx = placeOf [.powerOn, .checkFailed,
    .concurTimeout, .concurMismatch, .seatChanged, .consentExpired, .revoked, .release, .newCheck,
    .motionFault] x := by cases x <;> rfl

theorem enumByte_engine (x : EngineState) :
    enumByte x.ctorIdx = placeOf [.disarmed, .armed, .suppressed] x := by cases x <;> rfl

theorem enumByte_cueOutcome (x : CueOutcome) :
    enumByte x.ctorIdx = placeOf [.fired, .missed, .dropped] x := by cases x <;> rfl

theorem enumByte_cueDirection (x : CueDirection) : enumByte x.ctorIdx = placeOf [.fwd, .rev, .any] x := by
  cases x <;> rfl

theorem enumByte_format (x : ClipFormat) : enumByte x.ctorIdx = placeOf [.pcm16, .pcm8u, .pcm8s] x := by
  cases x <;> rfl

theorem enumByte_seatState (x : SeatState) : enumByte x.ctorIdx
    = placeOf [.notFitted, .isOpen, .locked, .confirmed, .releasing, .fault] x := by cases x <;> rfl

theorem enumByte_seatCause (x : SeatFaultCause) : enumByte x.ctorIdx
    = placeOf [.pairDisagree, .barSensor, .releaseTimeout, .lockLost] x := by cases x <;> rfl

theorem enumByte_solenoid (x : Solenoid) : enumByte x.ctorIdx = placeOf [.off, .pullIn, .hold] x := by
  cases x <;> rfl

theorem enumByte_reading (x : PairReading) :
    enumByte x.ctorIdx = placeOf [.locked, .unlocked, .disagreement] x := by cases x <;> rfl

theorem enumByte_channel (x : ChannelState) : enumByte x.ctorIdx = placeOf [.off, .steadyOn, .pulseOn,
    .burstOn, .burstOff, .cycleOn, .cycleOff, .dim, .lockedOut] x := by cases x <;> rfl

theorem enumByte_mountOutcome (x : MountOutcome) : enumByte x.ctorIdx = placeOf [.done, .badDirectory] x := by
  cases x <;> rfl

theorem enumByte_voice (x : VoiceState) :
    enumByte x.ctorIdx = placeOf [.idle, .playing, .paused, .fadingOut] x := by cases x <;> rfl

theorem enumByte_holdBehaviour (x : HoldBehaviour) : enumByte x.ctorIdx = placeOf [.playOn, .pauseOnHold] x := by
  cases x <;> rfl

theorem enumByte_endReason (x : EndReason) :
    enumByte x.ctorIdx = placeOf [.finished, .stop, .cut, .showStop] x := by cases x <;> rfl

theorem enumByte_showCause (x : ShowCause) : enumByte x.ctorIdx
    = placeOf [.motionFault, .permitLost, .positionLost, .hardStop] x := by cases x <;> rfl

theorem enumByte_announced (x : AnnouncementOutcome) : enumByte x.ctorIdx
    = placeOf [.played, .noClip, .notMounted, .mounting] x := by cases x <;> rfl

/-- A pending stop has no cause SECTION_RESET, whose place the shorter list gives as well. -/
theorem enumByte_pendingStop (x : StopCause) :
    enumByte x.ctorIdx = placeOf [.commandA, .commandB, .permitLost, .positionLost] x := by cases x <;> rfl

/-! ## Bodies -/

theorem RouteCounter.body_eq (r : RouteCounter) : r.body
    = bytesOf 4 r.position ++ bytesOf 1 r.mismatches ++ yesNo r.lost
      ++ presentOf 5 (fun k => bytesOf 1 k.id ++ bytesOf 4 k.error) r.lastMarker
      ++ presentOf 5 (fun k => bytesOf 4 k.position ++ bytesOf 1 k.id) r.markRecord
      ++ bytesOf 1 r.errors.left ++ bytesOf 1 r.errors.right ++ bytesOf 1 r.errors.turntable
      ++ yesNo r.conditions.left ++ yesNo r.conditions.right ++ yesNo r.conditions.turntable
      ++ bytesOf 1 r.markers.length := by
  simp only [RouteCounter.body, numBytes_fun, beBytes_fun, flagByte_fun, optBytes_fun, each_axes,
    PerAxis.get, List.append_assoc]

theorem markerBody_eq (m : Option Marker) : markerBody m
    = presentOf 8 (fun k => bytesOf 1 k.id ++ bytesOf 4 k.position ++ bytesOf 2 k.tolerance
        ++ placeOf [.correct, .check] k.kind) m := by
  simp only [markerBody, numBytes_fun, beBytes_fun, optBytes_fun, enumByte_markerKind]

theorem RouteCounter.listBody_eq (r : RouteCounter) :
    r.listBody = countedOf (fun k => bytesOf 1 k.id) r.markers := by
  simp only [RouteCounter.listBody, numBytes_fun, listBytes_fun]

theorem CurrentLeg.bytes_eq (retreating : Bool) (c : CurrentLeg) : c.bytes retreating
    = c.leg.fields ++ bytesOf 3 c.rem ++ bytesOf 1 c.kLeg ++ bytesOf 1 (c.kEff.getD c.kLeg)
      ++ bytesOf 3 c.stepDistance ++ presentOf 1 (fun (n : Nat) => bytesOf 1 n) c.exitStep
      ++ yesNo retreating ++ presentOf 1 (fun _ => yesNo c.markerTaken) c.leg.seek := by
  simp only [CurrentLeg.bytes, Leg.bytes_eq_fields, numBytes_fun, flagByte_fun, optBytes_fun]

theorem MotionGenerator.body_eq (m : MotionGenerator) : m.body
    = placeOf [.idle, .pre, .accel, .cruise, .decel, .dwell, .holding, .held, .stopping, .post,
        .faulted] m.phase
      ++ maskBytes 1 [m.holds.ride, m.holds.shows, m.holds.scene]
      ++ presentOf 2 (fun (n : Nat) => bytesOf 2 n) m.phaseTimer
      ++ presentOf 29 (fun c => c.leg.fields ++ bytesOf 3 c.rem ++ bytesOf 1 c.kLeg
          ++ bytesOf 1 (c.kEff.getD c.kLeg) ++ bytesOf 3 c.stepDistance
          ++ presentOf 1 (fun (n : Nat) => bytesOf 1 n) c.exitStep ++ yesNo m.retreat.isSome
          ++ presentOf 1 (fun _ => yesNo c.markerTaken) c.leg.seek) m.current
      ++ bytesOf 1 m.queue.length
      ++ presentOf 2 (fun k => bytesOf 1 k.tag
          ++ placeOf [.done, .seekDone, .seekFailed] k.outcome) m.lastEnded
      ++ yesNo m.servoLatch
      ++ presentOf 7 (fun f => placeOf [.followLeft, .followRight, .followTurntable, .alarmLeft,
            .alarmRight, .alarmTurntable, .encoderLeft, .encoderRight, .encoderTurntable,
            .positionRange] f.cause
          ++ bytesOf 4 f.position ++ presentOf 1 (fun (n : Nat) => bytesOf 1 n) f.tag) m.fault
      ++ bytesOf 1 m.extraFaults
      ++ presentOf 2 (fun k => placeOf [.soft, .hard] k.kind
          ++ placeOf [.commandA, .commandB, .permitLost, .positionLost, .sectionReset] k.cause)
        m.lastStop
      ++ presentOf 1 (placeOf [.commandA, .commandB, .permitLost, .positionLost]) m.pendingStop := by
  have leg : CurrentLeg.bytes m.retreat.isSome = _ := funext (CurrentLeg.bytes_eq m.retreat.isSome)
  have pending : optBytes 1 (fun (c : StopCause) => enumByte c.ctorIdx)
      = presentOf 1 (placeOf [.commandA, .commandB, .permitLost, .positionLost]) :=
    funext (optBytes_eq_presentOf 1 _ _ enumByte_pendingStop)
  simp only [MotionGenerator.body, pending, leg, maskOf_eq_maskBytes]
  simp only [numBytes_fun, beBytes_fun, flagByte_fun, optBytes_fun, enumByte_phase, enumByte_legOutcome,
    enumByte_faultCause, enumByte_stopKind, enumByte_stopCause]

theorem MotionGenerator.legsBody_eq (m : MotionGenerator) :
    m.legsBody = countedOf Leg.fields m.queue := by
  rw [MotionGenerator.legsBody, listBytes_eq_countedOf _ _ Leg.bytes_eq_fields]

theorem Run.bytes_eq (timer : Option Nat) (r : Run) : r.bytes timer
    = (match r.kind with
        | .turn target mode => bytesOf 1 0 ++ bytesOf 1 1 ++ bytesOf 2 target
            ++ bytesOf 1 1 ++ placeOf [.short, .fwd, .rev] mode
        | .home => bytesOf 1 1 ++ bytesOf 5 0)
      ++ placeOf [.fwd, .rev] r.direction ++ bytesOf 3 r.rem
      ++ bytesOf 1 (r.kEff.getD r.k) ++ yesNo r.retreat.isSome
      ++ presentOf 2 (fun (n : Nat) => bytesOf 2 n) timer := by
  simp only [Run.bytes, numBytes_fun, flagByte_fun, optBytes_fun, enumByte_travel, enumByte_turnMode]
  cases r.kind with
  | turn target mode => simp only [RunKind.index, RunKind.turnOf, presentOf, enumByte_eq_bytesOf]; simp
  | home => rfl

theorem State.turntableBody_eq (s : State) : s.turntableBody
    = placeOf [.idle, .pre, .homing, .turning, .stopping] s.tt.phase ++ bytesOf 2 s.tt.position
      ++ yesNo s.tt.homed ++ bytesOf 2 s.settings.countsPerRevolution
      ++ presentOf 15 (Run.bytes s.tt.timer) s.tt.run
      ++ presentOf 4 (fun k => bytesOf 2 k.target ++ placeOf [.short, .fwd, .rev] k.mode
          ++ placeOf [.done, .stopped, .cut] k.outcome) s.tt.lastTurn
      ++ presentOf 1 (placeOf [.done, .limit, .permit, .cut]) s.tt.lastHome := by
  simp only [State.turntableBody, numBytes_fun, flagByte_fun, optBytes_fun, enumByte_turnPhase,
    enumByte_turnMode, enumByte_turnOutcome, enumByte_homeOutcome]

theorem Permit.body_eq (g : Permit) : g.body
    = placeOf [.noPermit, .awaitingConcur, .granted] g.state ++ bytesOf 2 g.generation
      ++ bytesOf 1 g.fittedMask.toNat ++ bytesOf 1 g.passMask.toNat
      ++ ((List.finRange 8).map fun i =>
          presentOf 1 (placeOf [.pass, .short, .notLocked, .fault]) (g.results[i]'i.isLt)).flatten
      ++ presentOf 2 (fun (n : Nat) => bytesOf 2 n) g.concurRemaining
      ++ presentOf 2 (fun (n : Nat) => bytesOf 2 n) g.consentRemaining
      ++ presentOf 2 (fun (n : Nat) => bytesOf 2 n) g.periodWindow
      ++ presentOf 1 yesNo g.lowGiven
      ++ placeOf [.powerOn, .checkFailed, .concurTimeout, .concurMismatch, .seatChanged,
          .consentExpired, .revoked, .release, .newCheck, .motionFault] g.lastLoss := by
  simp only [Permit.body, each_vector, numBytes_fun, flagByte_fun, optBytes_fun, enumByte_permitState,
    enumByte_checkResult, enumByte_lossCause]

theorem CueEngine.body_eq (e : CueEngine) : e.body
    = placeOf [.disarmed, .armed, .suppressed] e.engine
      ++ bytesOf 1 (e.slots.toList.countP (·.isSome))
      ++ maskBytes 8 (e.slots.toList.map (·.isSome))
      ++ maskBytes 8 (e.slots.toList.map fun c => (c.map (·.fired)).getD false)
      ++ bytesOf 2 e.outcomes := by
  have fired : (fun c : Option Cue => c.any (·.fired)) = fun c => (c.map (·.fired)).getD false := by
    funext c; cases c <;> rfl
  simp only [CueEngine.body, maskOf_eq_maskBytes, fired, enumByte_engine, ← List.countP_eq_length_filter]
  simp only [numBytes_fun]

theorem CueEngine.logBody_eq (e : CueEngine) : e.logBody
    = countedOf (fun k => bytesOf 1 k.slot ++ placeOf [.fired, .missed, .dropped] k.outcome
        ++ presentOf 1 (fun (n : Nat) => bytesOf 1 n) k.action ++ bytesOf 4 k.position) e.log
      ++ bytesOf 2 e.outcomes := by
  have entry : LogEntry.bytes = fun k => bytesOf 1 k.slot ++ placeOf [.fired, .missed, .dropped] k.outcome
      ++ presentOf 1 (fun (n : Nat) => bytesOf 1 n) k.action ++ bytesOf 4 k.position := by
    funext k
    simp only [LogEntry.bytes, numBytes_fun, beBytes_fun, optBytes_fun, enumByte_cueOutcome]
  simp only [CueEngine.logBody, entry, numBytes_fun, listBytes_fun]

theorem SoundUnit.clipsBody_eq (u : SoundUnit) : u.clipsBody
    = yesNo u.mount.isSome
      ++ countedOf (fun c => bytesOf 1 c.id ++ placeOf [.pcm16, .pcm8u, .pcm8s] c.format
          ++ bytesOf 3 c.start ++ bytesOf 3 c.length ++ bytesOf 3 c.loopStart) u.clips := by
  simp only [SoundUnit.clipsBody, SoundUnit.mountByte, numBytes_fun, flagByte_fun, listBytes_fun,
    enumByte_format]

theorem State.driveBody_eq (s : State) : s.driveBody
    = bytesOf 2 s.drive.accumulator ++ bytesOf 2 s.drive.residual
      ++ bytesOf 4 s.drive.commanded.left.toInt ++ bytesOf 4 s.drive.commanded.right.toInt
      ++ bytesOf 4 s.drive.commanded.turntable.toInt
      ++ bytesOf 4 s.drive.measured.left.toInt ++ bytesOf 4 s.drive.measured.right.toInt
      ++ bytesOf 4 s.drive.measured.turntable.toInt
      ++ bytesOf 4 (s.drive.commanded.left.toInt - s.drive.measured.left.toInt)
      ++ bytesOf 4 (s.drive.commanded.right.toInt - s.drive.measured.right.toInt)
      ++ bytesOf 4 (s.drive.commanded.turntable.toInt - s.drive.measured.turntable.toInt)
      ++ yesNo s.drive.enable ++ yesNo s.drive.brakeRelease
      ++ placeOf [.fwd, .rev] s.drive.direction.left ++ placeOf [.fwd, .rev] s.drive.direction.right
      ++ placeOf [.fwd, .rev] s.drive.direction.turntable
      ++ yesNo s.pins.alarm.left ++ yesNo s.pins.alarm.right ++ yesNo s.pins.alarm.turntable := by
  simp only [State.driveBody, numBytes_fun, beBytes_fun, flagByte_fun, each_axes, enumByte_travel,
    PerAxis.get, DriveUnit.following, bytesOf_toNat, bytesOf_sub, List.append_assoc]

theorem State.seatsBody_eq (s : State) : s.seatsBody
    = bytesOf 1 s.settings.fittedSeatCount
      ++ ((List.finRange 8).map fun i =>
        placeOf [.notFitted, .isOpen, .locked, .confirmed, .releasing, .fault] (s.seat i).state
          ++ yesNo (s.seat i).occupied ++ bytesOf 1 (s.seat i).bar
          ++ presentOf 1 (fun (n : Nat) => bytesOf 1 n) (s.seat i).confirmBar
          ++ presentOf 2 (fun (n : Nat) => bytesOf 2 n) (s.seat i).confirmGeneration
          ++ presentOf 1 (placeOf [.pairDisagree, .barSensor, .releaseTimeout, .lockLost])
            (s.seat i).cause
          ++ presentOf 1 (placeOf [.pass, .short, .notLocked, .fault]) (s.seat i).lastResult
          ++ bytesOf 1 (s.seat i).changes
          ++ placeOf [.off, .pullIn, .hold] (s.seat i).solenoid
          ++ presentOf 2 (fun (n : Nat) => bytesOf 2 n) (s.seat i).elapsed
          ++ placeOf [.locked, .unlocked, .disagreement] (s.seat i).filtered
          ++ placeOf [.locked, .unlocked, .disagreement]
            (rawPair (s.pins.lka.getLsbD i) (s.pins.lkb.getLsbD i))
          ++ yesNo (s.pins.occupancy.getLsbD i)).flatten := by
  have seats : allSeats = List.finRange 8 := by decide
  have seat : s.seatBytes = fun i =>
      placeOf [.notFitted, .isOpen, .locked, .confirmed, .releasing, .fault] (s.seat i).state
        ++ yesNo (s.seat i).occupied ++ bytesOf 1 (s.seat i).bar
        ++ presentOf 1 (fun (n : Nat) => bytesOf 1 n) (s.seat i).confirmBar
        ++ presentOf 2 (fun (n : Nat) => bytesOf 2 n) (s.seat i).confirmGeneration
        ++ presentOf 1 (placeOf [.pairDisagree, .barSensor, .releaseTimeout, .lockLost])
          (s.seat i).cause
        ++ presentOf 1 (placeOf [.pass, .short, .notLocked, .fault]) (s.seat i).lastResult
        ++ bytesOf 1 (s.seat i).changes
        ++ placeOf [.off, .pullIn, .hold] (s.seat i).solenoid
        ++ presentOf 2 (fun (n : Nat) => bytesOf 2 n) (s.seat i).elapsed
        ++ placeOf [.locked, .unlocked, .disagreement] (s.seat i).filtered
        ++ placeOf [.locked, .unlocked, .disagreement]
          (rawPair (s.pins.lka.getLsbD i) (s.pins.lkb.getLsbD i))
        ++ yesNo (s.pins.occupancy.getLsbD i) := by
    funext i
    simp only [State.seatBytes, State.rawReading, numBytes_fun, flagByte_fun, optBytes_fun,
      enumByte_seatState, enumByte_seatCause, enumByte_checkResult, enumByte_solenoid, enumByte_reading]
  rw [State.seatsBody, each_eq, seats, seat, numBytes_eq_bytesOf]

theorem State.effectsBody_eq {s : State} (live : s.inReset = false) : s.effectsBody
    = ((List.finRange 12).map fun i =>
        placeOf [.off, .steadyOn, .pulseOn, .burstOn, .burstOff, .cycleOn, .cycleOff, .dim,
            .lockedOut] (s.channel i).state
          ++ presentOf 8 Pattern.fields (s.channel i).running
          ++ presentOf 2 (fun (n : Nat) => bytesOf 2 n) (s.channel i).interval
          ++ presentOf 1 (fun (n : Nat) => bytesOf 1 n) (s.channel i).bursts
          ++ presentOf 8 Pattern.fields (s.channel i).armed
          ++ bytesOf 1 (s.channel i).completions
          ++ yesNo (s.effectOut i (s.effects.carrierAt (Config.carrierMicros s.freeCount)))
          ++ yesNo (s.pins.readback.getLsbD i)).flatten
      ++ ((List.finRange 6).map fun (q : Fin 6) =>
        yesNo (s.settings.exclusivePairMask.getLsbD q) ++ bytesOf 1 (s.effects.conflicts[q]'q.isLt : Nat)).flatten := by
  have channels : allChannels = List.finRange 12 := by decide
  have pairs : allPairs = List.finRange 6 := by decide
  have pattern : Pattern.bytes = Pattern.fields := funext Pattern.bytes_eq_fields
  have out (i : Fin 12) (us : Nat) : s.effectOut i us = (s.channel i).output us :=
    line_released _ _ live
  simp only [State.effectsBody, each_eq, channels, pairs, out, State.exclusive, flagByte_fun, numBytes_fun]
  congr 3
  funext i
  simp only [State.channelBytes, pattern, numBytes_fun, flagByte_fun, optBytes_fun, enumByte_channel]

theorem Voice.bytes_eq (x : Voice) : x.bytes
    = placeOf [.idle, .playing, .paused, .fadingOut] x.state
      ++ presentOf 1 (fun (n : Nat) => bytesOf 1 n) x.clip ++ bytesOf 3 x.cursor
      ++ presentOf 1 (fun (n : Nat) => bytesOf 1 n) x.plays
      ++ bytesOf 1 x.gain ++ bytesOf 1 x.target ++ bytesOf 1 x.step ++ bytesOf 1 x.zones.toNat
      ++ placeOf [.playOn, .pauseOnHold] x.hold
      ++ bytesOf 2 x.fifo.length ++ yesNo x.primed ++ yesNo x.starved ++ bytesOf 1 x.endCount
      ++ presentOf 2 (fun k => bytesOf 1 k.clip
          ++ placeOf [.finished, .stop, .cut, .showStop] k.reason) x.lastEnd := by
  simp only [Voice.bytes, numBytes_fun, flagByte_fun, optBytes_fun, enumByte_voice,
    enumByte_holdBehaviour, enumByte_endReason]

theorem SoundUnit.body_eq (u : SoundUnit) : u.body
    = yesNo u.mount.isSome
      ++ presentOf 5 (fun k => presentOf 1 (fun (n : Nat) => bytesOf 1 n) k.toRead ++ bytesOf 1 k.next
          ++ bytesOf 1 k.valid ++ bytesOf 1 k.invalid) u.mount
      ++ presentOf 3 (fun k => placeOf [.done, .badDirectory] k.outcome ++ bytesOf 1 k.valid
          ++ bytesOf 1 k.invalid) u.lastMount
      ++ ((List.finRange 6).map fun v => (u.voice[v]'v.isLt).bytes).flatten
      ++ bytesOf 1 u.duck
      ++ ((List.finRange 4).map fun z => bytesOf 1 (u.zone[z]'z.isLt).current ++ bytesOf 1 (u.zone[z]'z.isLt).target
          ++ bytesOf 1 (u.zone[z]'z.isLt).step).flatten
      ++ ((List.finRange 4).map fun z => bytesOf 2 (u.zoneClips[z]'z.isLt : Nat)).flatten
      ++ presentOf 2 (fun k => placeOf [.motionFault, .permitLost, .positionLost, .hardStop] k.cause
          ++ placeOf [.played, .noClip, .notMounted, .mounting] k.outcome) u.lastAnnouncement := by
  simp only [SoundUnit.body, SoundUnit.mountByte, each_vector, numBytes_fun, flagByte_fun, optBytes_fun,
    enumByte_mountOutcome, enumByte_showCause, enumByte_announced]

theorem cueBody_eq (c : Option Cue) : cueBody c
    = presentOf 12 (fun c => bytesOf 4 c.trigger ++ placeOf [.fwd, .rev, .any] c.direction
        ++ presentOf 4 (fun x => bytesOf 4 x) c.latest ++ countedOf CueAction.bytes c.actions
        ++ yesNo c.fired) c := by
  simp only [cueBody, beBytes_fun, flagByte_fun, optBytes_fun, listBytes_fun, enumByte_cueDirection]

end Sys2Proof.Machine
end

section
/-! The read commands (R152, R189, R194, R203, R207). -/

namespace Sys2Proof.Machine

-- One theorem at a time: each waits for the kernel, and many waiting at once are many threads.
set_option Elab.async false

/-! ## A response while a command is taken -/

/-- A command that answers and then changes only what `blocks` names, outside the framing. -/
theorem answer_next {p : Port} {code : Byte} {body : List Byte} {f after : State → State}
    {blocks : List Block} {s : State} (h : s.inReset = false)
    (effect : f (s.onPort p (·.commandFramed))
      = after ((s.onPort p (·.commandFramed)).respond p code body))
    (outside : ∀ u, SameBut blocks u (after u)) (noFraming : blocks.contains .framing = false) :
    ∃ t, commandTaken p f s = .next t ∧ Answered p code body s t ∧ SameBut (.framing :: blocks) s t
      ∧ t = (after ((s.onPort p (·.commandFramed)).respond p code body)).onPort p (·.slotBegun) := by
  refine ⟨_, commandTaken_next h, ?_, ?_, by rw [effect]⟩
  · rw [effect]
    exact respond_answered (.outside (outside _) noFraming)
  · rw [effect]
    have answer (u : State) : SameBut [.framing] u (u.respond p code body) :=
      onPort_framing_outside u p _ (fun _ => rfl) (fun _ => rfl) (fun _ => rfl)
    exact SameBut.framed (SameBut_seq (c := [.framing]) (commandFramed_outside p s) (answer _)) (outside _)
      (slotBegun_outside p _)

/-- A read that only answers: its body reads no framing, so it is that of the state before. -/
theorem read_next {p : Port} {code : Byte} {body : State → List Byte} {s : State} (h : s.inReset = false)
    (same : body (s.onPort p (·.commandFramed)) = body s) :
    ∃ t, commandTaken p (fun u => u.respond p code (body u)) s = .next t
      ∧ Answered p code (body s) s t ∧ SameBut [.framing] s t := by
  obtain ⟨t, next, answered, outside, -⟩ :=
    answer_next (body := body s) (f := fun u => u.respond p code (body u)) (after := id) (blocks := []) h
      (by rw [same]; rfl) (SameBut_refl []) rfl
  exact ⟨t, next, answered, outside⟩

/-- A read that shows input lines takes them as they stand. -/
theorem readPins_next {p : Port} {pins : Pins} {code : Byte} {body : State → List Byte} {s : State}
    (h : s.inReset = false)
    (same : body ((s.onPort p (·.commandFramed)).withPins pins) = body (s.withPins pins)) :
    ∃ t, commandTaken p (fun u => (u.withPins pins).respond p code (body (u.withPins pins))) s = .next t
      ∧ t.pins = pins ∧ Answered p code (body (s.withPins pins)) s t ∧ SameBut [.framing, .lines] s t := by
  obtain ⟨t, next, answered, outside, made⟩ :=
    answer_next (body := body (s.withPins pins))
      (f := fun u => (u.withPins pins).respond p code (body (u.withPins pins)))
      (after := (·.withPins pins)) h (by rw [same]; rfl) (fun u => withPins_outside u pins) rfl
  exact ⟨t, next, by rw [made]; rfl, answered, outside⟩

theorem response_slotBegun_of_empty {x : PortState} (h : x.response = none) :
    x.slotBegun.response = none := by
  by_cases out : x.framer = .deselected
  · rwa [slotBegun_of_deselected out]
  · rwa [slotBegun_of_empty out h]

/-- A refusal by a read that has no test of rights. -/
theorem refuse_next {p : Port} {code : Byte} {r : Reason} {f : State → State} {s : State}
    (h : s.inReset = false)
    (effect : f (s.onPort p (·.commandFramed)) = (s.onPort p (·.commandFramed)).refuse p r code) :
    ∃ t, commandTaken p f s = .next t ∧ RefusedOn p r code s t ∧ OthersFraming p s t
      ∧ ((s.ports.get p).response = none → (t.ports.get p).response = none) := by
  refine ⟨_, commandTaken_next h, ?_, ?_, fun empty => ?_⟩
  · rw [effect]
    exact RefusedOn.framed (commandFramed_outside p s) (refuse_refusedOn _ p _ _) (slotBegun_outside p _)
  · rw [effect]
    exact ((onPort_othersFraming s p _).trans (refuse_othersFraming _ p p _ _)).trans
      (onPort_othersFraming _ p _)
  · rw [effect]
    have kept := refuse_kept (s.onPort p (·.commandFramed)) p r code p
    generalize (s.onPort p (·.commandFramed)).refuse p r code = u at kept
    simp only [PortState.framing, Prod.mk.injEq, State.onPort_ports, PerPort_get_modify, if_true,
      response_commandFramed] at kept ⊢
    obtain ⟨-, -, response, -⟩ := kept
    exact response_slotBegun_of_empty (response.trans empty)

/-! ## The rows -/

section
variable (p : Port) {s : State} (h : s.inReset = false)
include h

theorem exec_readDrive_next (pins : Pins) : ∃ t, exec (.readDrive p pins) s = .next t ∧ t.pins = pins
    ∧ Answered p 0x2B (s.withPins pins).driveBody s t ∧ SameBut [.framing, .lines] s t :=
  readPins_next (body := State.driveBody) h rfl

theorem exec_readSeats_next (pins : Pins) : ∃ t, exec (.readSeats p pins) s = .next t ∧ t.pins = pins
    ∧ Answered p 0x3A (s.withPins pins).seatsBody s t ∧ SameBut [.framing, .lines] s t :=
  readPins_next (body := State.seatsBody) h rfl

theorem exec_readEffects_next (pins : Pins) : ∃ t, exec (.readEffects p pins) s = .next t ∧ t.pins = pins
    ∧ Answered p 0x62 (s.withPins pins).effectsBody s t ∧ t.inReset = false ∧ t.pending = s.pending
    ∧ SameBut [.framing, .lines, .model] s t := by
  obtain ⟨t, next, answered, outside, made⟩ :=
    answer_next (p := p) (code := 0x62) (body := (s.withPins pins).effectsBody)
      (f := takeReadEffects p pins) (after := fun u => (u.withPins pins).spendFree 1)
      (blocks := [.lines, .model]) h rfl
      (fun u => SameBut_trans (withPins_outside u pins) (spendFree_outside _ 1)) rfl
  exact ⟨t, next, by rw [made]; rfl, answered, by rw [made]; exact h, by rw [made]; rfl, outside⟩

theorem exec_readSound_next : ∃ t, exec (.readSound p) s = .next t ∧ Answered p 0x75 s.sound.body s t
    ∧ t.sound = { s.sound with zoneClips := Vector.replicate 4 0 } ∧ SameBut [.framing, .sound] s t := by
  obtain ⟨t, next, answered, outside, made⟩ :=
    answer_next (p := p) (code := 0x75) (body := s.sound.body) (f := takeReadSound p)
      (after := (·.onSound fun u => { u with zoneClips := Vector.replicate 4 0 })) h rfl
      (fun u => onSound_outside u _) rfl
  exact ⟨t, next, answered, by rw [made]; rfl, outside⟩

theorem exec_readSetting_next (n : Byte) : ∃ t, exec (.readSetting p n) s = .next t
    ∧ match settingOf n.toNat with
      | some st => Answered p 0x02 (n :: bytesOf 4 (st.value s)) s t ∧ SameBut [.framing] s t
      | none => RefusedOn p .range 0x02 s t ∧ OthersFraming p s t
          ∧ ((s.ports.get p).response = none → (t.ports.get p).response = none) := by
  cases named : settingOf n.toNat with
  | none => exact refuse_next (f := takeReadSetting p n) h (by simp only [takeReadSetting, named]; rfl)
  | some st =>
    have value : st.value (s.onPort p (·.commandFramed)) = st.value s :=
      Setting.value_congr (s := s) (t := s.onPort p (·.commandFramed)) rfl ((commandFramed_outside p s).same .masks) st
    obtain ⟨t, next, answered, outside⟩ := read_next (p := p) (code := 0x02) (s := s)
      (body := fun u => u.settingBody n st) h (by simp only [State.settingBody, value])
    refine ⟨t, ?_, ?_, outside⟩
    · rw [← next]
      simp only [exec_readSetting, execReadSetting, commandTaken, takeReadSetting, named]
      rfl
    · rwa [State.settingBody, numBytes_eq_bytesOf] at answered

theorem exec_readCue_next (n : Byte) : ∃ t, exec (.readCue p n) s = .next t
    ∧ if slot : n.toNat < 64 then
        Answered p 0x56 (cueBody (s.slot ⟨n.toNat, slot⟩)) s t ∧ SameBut [.framing] s t
      else RefusedOn p .range 0x56 s t ∧ OthersFraming p s t
          ∧ ((s.ports.get p).response = none → (t.ports.get p).response = none) := by
  by_cases slot : n.toNat < 64
  · simp only [dif_pos slot]
    obtain ⟨t, next, answered⟩ := read_next (p := p) (code := 0x56) (s := s)
      (body := fun u => cueBody (u.slot ⟨n.toNat, slot⟩)) h rfl
    refine ⟨t, ?_, answered⟩
    rw [← next]
    simp only [exec_readCue, execReadCue, commandTaken, takeReadCue, finOf, dif_pos slot]
    rfl
  · simp only [dif_neg slot]
    exact refuse_next (f := takeReadCue p n) h (by simp only [takeReadCue, finOf, dif_neg slot]; rfl)

end

/-- Settles O10: each read answers with its body, and each body is the fields of its rule. -/
theorem readsAnswer : Obligations.ReadsAnswer := by
  refine ⟨fun p id s h m hm tt htt g hg e he x listed => ?_, fun p pins s h => ⟨?_, ?_, ?_, ?_⟩,
    fun p n s h => ⟨exec_readSetting_next p h n, ?_⟩⟩
  · subst hm htt hg he
    simp only [List.mem_cons, List.not_mem_nil, or_false] at listed
    rcases listed with rfl | rfl | rfl | rfl | rfl | rfl | rfl | rfl | rfl | rfl
    · rw [← RouteCounter.body_eq]
      exact read_next (body := fun u => u.route.body) h rfl
    · rw [← markerBody_eq]
      exact read_next (body := fun u => markerBody (u.route.entry id.toNat)) h rfl
    · rw [← RouteCounter.listBody_eq]
      exact read_next (body := fun u => u.route.listBody) h rfl
    · rw [← MotionGenerator.body_eq]
      exact read_next (body := fun u => u.motion.body) h rfl
    · rw [← MotionGenerator.legsBody_eq]
      exact read_next (body := fun u => u.motion.legsBody) h rfl
    · obtain ⟨t, next, answered, outside⟩ :=
        read_next (p := p) (code := 0x32) (body := State.turntableBody) h rfl
      refine ⟨t, next, ?_, outside⟩
      rwa [State.turntableBody_eq, funext (Run.bytes_eq s.tt.timer)] at answered
    · rw [← Permit.body_eq]
      exact read_next (body := fun u => u.permit.body) h rfl
    · rw [← CueEngine.body_eq]
      exact read_next (body := fun u => u.cues.body) h rfl
    · rw [← CueEngine.logBody_eq]
      exact read_next (body := fun u => u.cues.logBody) h rfl
    · rw [← SoundUnit.clipsBody_eq]
      exact read_next (body := fun u => u.sound.clipsBody) h rfl
  · obtain ⟨t, next, lines, answered, outside⟩ := exec_readDrive_next p h pins
    rw [State.driveBody_eq] at answered
    exact ⟨t, next, lines, answered, outside⟩
  · obtain ⟨t, next, lines, answered, outside⟩ := exec_readSeats_next p h pins
    rw [State.seatsBody_eq] at answered
    exact ⟨t, next, lines, answered, outside⟩
  · obtain ⟨t, next, lines, answered, live, queue, outside⟩ := exec_readEffects_next p h pins
    rw [State.effectsBody_eq (s := s.withPins pins) h] at answered
    exact ⟨t, next, lines, fun us place => by subst place; exact answered, live, queue, outside⟩
  · obtain ⟨t, next, answered, sound, outside⟩ := exec_readSound_next p h
    rw [SoundUnit.body_eq] at answered
    simp only [Voice.bytes_eq] at answered
    exact ⟨t, next, answered, sound, outside⟩
  · simp only [← cueBody_eq]
    exact exec_readCue_next p h n

end Sys2Proof.Machine
end

section
/-! Commands as bytes, both ways (R192, R193, chapter 11). -/

namespace Sys2Proof.Machine

-- One theorem at a time: each waits for the kernel, and many waiting at once are many threads.
set_option Elab.async false

/-! ## Words and their bytes -/

theorem exists_half (x : BitVec 16) : ∃ a b, x = half a b := by
  refine ⟨x.extractLsb' 8 8, x.extractLsb' 0 8, ?_⟩
  rw [half, BitVec.extractLsb'_append_extractLsb'_eq_extractLsb' (by decide)]
  simp

theorem exists_triple (x : BitVec 24) : ∃ a b c, x = triple a b c := by
  refine ⟨x.extractLsb' 16 8, x.extractLsb' 8 8, x.extractLsb' 0 8, ?_⟩
  rw [triple, BitVec.extractLsb'_append_extractLsb'_eq_extractLsb' (by decide),
    BitVec.extractLsb'_append_extractLsb'_eq_extractLsb' (by decide)]
  simp

theorem exists_quad (x : BitVec 32) : ∃ a b c d, x = quad a b c d := by
  refine ⟨x.extractLsb' 24 8, x.extractLsb' 16 8, x.extractLsb' 8 8, x.extractLsb' 0 8, ?_⟩
  rw [quad, BitVec.extractLsb'_append_extractLsb'_eq_extractLsb' (by decide),
    BitVec.extractLsb'_append_extractLsb'_eq_extractLsb' (by decide),
    BitVec.extractLsb'_append_extractLsb'_eq_extractLsb' (by decide)]
  simp

/-! ## Records of ten bytes -/

/-- Records as bytes are read as the same records. -/
theorem records_flatMap (l : List (Vector Byte 10)) : records (l.flatMap (·.toList)) = some l := by
  induction l with
  | nil => rfl
  | cons r l ih =>
    have same : #v[r[0]'(by decide), r[1]'(by decide), r[2]'(by decide), r[3]'(by decide), r[4]'(by decide), r[5]'(by decide), r[6]'(by decide), r[7]'(by decide), r[8]'(by decide), r[9]'(by decide)] = r := by
      apply Vector.toList_inj.mp
      rw [toList_record r]
      rfl
    rw [List.flatMap_cons, toList_record]
    change (records (l.flatMap (·.toList))).map (_ :: ·) = _
    rw [ih, same, Option.map_some]

/-! ## The bytes of a command are read as it -/

theorem number_lt (st : Setting) : st.number < 256 := by
  cases st with
  | eventMask p | watchSet p => cases p <;> decide
  | rampStep k | turntableStep k | announcementClip k => revert k; decide
  | _ => decide

/-- The row of a setting by its number. -/
theorem settingOf_numberByte (st : Setting) : settingOf (BitVec.ofNat 8 st.number).toNat = some st := by
  rw [BitVec.toNat_ofNat, Nat.mod_eq_of_lt (number_lt st)]
  exact settingOf_number st

/-- The bytes of a Write Setting are read as the row of its number. -/
theorem parseCommand_write (p : Port) (pins : Pins) (n : Byte) (v : BitVec 32) :
    parseCommand p pins Code.writeSetting (n :: numBytes 4 v.toNat) = some (writeRow p n v) := by
  obtain ⟨a, b, c, d, rfl⟩ := exists_quad v
  rw [numBytes_quad]
  rfl

theorem writeRow_plain {p : Port} {n : Byte} {v : BitVec 32}
    (h : (settingOf n.toNat).any (·.ownRow) = false) : writeRow p n v = .writeSetting p n v := by
  unfold writeRow
  split
  all_goals first
    | rfl
    | (next named => rw [named] at h; cases h)

/-- A Write Setting in the row of its own setting. -/
theorem parseCommand_ownRow {p : Port} (pins : Pins) {st : Setting} {v : BitVec 32} {c : Instr}
    (row : writeRow p (BitVec.ofNat 8 st.number) v = c) :
    parseCommand p pins Code.writeSetting (BitVec.ofNat 8 st.number :: numBytes 4 v.toNat) = some c := by
  rw [parseCommand_write, row]

/-- The bytes of a Load Cue are read as it, whatever its count byte says. -/
theorem parseCommand_loadCue (p : Port) (pins : Pins) (b : CueBytes) :
    parseCommand p pins Code.loadCue (cueBytes b) = some (.loadCue p b) := by
  obtain ⟨slot, trigger, direction, present, latest, count, actions⟩ := b
  obtain ⟨t3, t2, t1, t0, rfl⟩ := exists_quad trigger
  obtain ⟨l3, l2, l1, l0, rfl⟩ := exists_quad latest
  have bytes : cueBytes ⟨slot, quad t3 t2 t1 t0, direction, present, quad l3 l2 l1 l0, count, actions⟩
      = slot :: t3 :: t2 :: t1 :: t0 :: direction :: present :: l3 :: l2 :: l1 :: l0 :: count
        :: actions.flatMap (·.toList) := by
    simp only [cueBytes, numBytes_quad]
    rfl
  have read : longRow p Code.loadCue (slot :: t3 :: t2 :: t1 :: t0 :: direction :: present :: l3 :: l2
      :: l1 :: l0 :: count :: actions.flatMap (·.toList))
      = (records (actions.flatMap (·.toList))).map fun actions =>
        .loadCue p ⟨slot, quad t3 t2 t1 t0, direction, present, quad l3 l2 l1 l0, count, actions⟩ := rfl
  rw [records_flatMap] at read
  rw [bytes]
  exact read

/-- A command has bytes, and they are read as it with the levels it sees. -/
def Readable (p : Port) (pins : Pins) (c : Instr) : Prop :=
  ∃ code args, frameBytes c = some (code :: args) ∧ parseCommand p pins code args = some (c.seen pins)

theorem readable_of_setting {p : Port} {pins : Pins} {c : Instr} (st : Setting) {v : BitVec 32}
    (row : writeRow p (BitVec.ofNat 8 st.number) v = c.seen pins)
    (bytes : frameBytes c = some (writeBytes st.number v)) : Readable p pins c :=
  ⟨_, _, bytes, parseCommand_ownRow pins row⟩

theorem readable_rfl {p : Port} {pins : Pins} {c : Instr} {code : Byte} {args : List Byte}
    (bytes : frameBytes c = some (code :: args)) (read : parseCommand p pins code args = some (c.seen pins)) :
    Readable p pins c := ⟨code, args, bytes, read⟩

/-- Every well-formed command of a port has bytes, and they are read as it; an event has no port. -/
theorem readable_of_wellFormed (pins : Pins) {c : Instr} (wellFormed : c.wellFormed = true) :
    c.sender.elim True fun p => Readable p pins c := by
  cases c
  case writeSetting n v =>
    refine ⟨_, _, rfl, ?_⟩
    rw [BitVec.ofNat_toNat, BitVec.setWidth_eq]
    exact (parseCommand_write _ pins n v).trans (congrArg some (writeRow_plain ((Bool.not_eq_true' _).mp wellFormed)))
  case writeEventMask q v => exact readable_of_setting (.eventMask q) (by rw [writeRow, settingOf_numberByte]; rfl) rfl
  case writePhaseWatchSet q v => exact readable_of_setting (.watchSet q) (by rw [writeRow, settingOf_numberByte]; rfl) rfl
  case writeEncoderErrorLimit v => exact readable_of_setting .encoderErrorLimit (by rw [writeRow, settingOf_numberByte]; rfl) rfl
  case writeRampTable e v =>
    exact readable_of_setting (rampSetting e) (by rw [writeRow, settingOf_numberByte]; cases e <;> rfl) rfl
  case writeTurntableCountsPerRevolution v =>
    exact readable_of_setting .countsPerRevolution (by rw [writeRow, settingOf_numberByte]; rfl) rfl
  case writeTurntableStep k v => exact readable_of_setting (.turntableStep k) (by rw [writeRow, settingOf_numberByte]; rfl) rfl
  case writeFittedSeatCount v => exact readable_of_setting .fittedSeatCount (by rw [writeRow, settingOf_numberByte]; rfl) rfl
  case writeExclusivePairMask v => exact readable_of_setting .exclusivePairMask (by rw [writeRow, settingOf_numberByte]; rfl) rfl
  case loadMarker i x t k =>
    obtain ⟨x3, x2, x1, x0, rfl⟩ := exists_quad x
    obtain ⟨t1, t0, rfl⟩ := exists_half t
    have bytes : [Code.loadMarker, i] ++ numBytes 4 (quad x3 x2 x1 x0).toNat ++ numBytes 2 (half t1 t0).toNat ++ [k]
        = [Code.loadMarker, i, x3, x2, x1, x0, t1, t0, k] := by
      rw [numBytes_quad, numBytes_half]; rfl
    exact ⟨_, _, congrArg some bytes, rfl⟩
  case appendLeg l =>
    obtain ⟨d, length, k, steer, f, dwell, g⟩ := l
    obtain ⟨l2, l1, l0, rfl⟩ := exists_triple length
    obtain ⟨s1, s0, rfl⟩ := exists_half steer
    obtain ⟨w1, w0, rfl⟩ := exists_half dwell
    exact ⟨_, _, congrArg (fun bytes => some (Code.appendLeg :: bytes))
      (legBytes_read d l2 l1 l0 k s1 s0 f w1 w0 g), rfl⟩
  case appendSeekLeg l m a =>
    obtain ⟨d, length, k, steer, f, dwell, g⟩ := l
    obtain ⟨l2, l1, l0, rfl⟩ := exists_triple length
    obtain ⟨s1, s0, rfl⟩ := exists_half steer
    obtain ⟨w1, w0, rfl⟩ := exists_half dwell
    exact ⟨_, _, congrArg (fun bytes => some (Code.appendSeekLeg :: (bytes ++ [m, a])))
      (legBytes_read d l2 l1 l0 k s1 s0 f w1 w0 g), rfl⟩
  case turnTo t m =>
    obtain ⟨t1, t0, rfl⟩ := exists_half t
    exact ⟨_, _, congrArg (fun l => some ([Code.turnTo] ++ l ++ [m])) (numBytes_half t1 t0), rfl⟩
  case concur g m =>
    obtain ⟨g1, g0, rfl⟩ := exists_half g
    exact ⟨_, _, congrArg (fun l => some ([Code.concur] ++ l ++ [m])) (numBytes_half g1 g0), rfl⟩
  case renewConsent g =>
    obtain ⟨g1, g0, rfl⟩ := exists_half g
    exact ⟨_, _, congrArg (fun l => some ([Code.renewConsent] ++ l)) (numBytes_half g1 g0), rfl⟩
  case loadCue b => exact ⟨_, _, rfl, parseCommand_loadCue _ pins b⟩
  case setEffectStart c x | setEffectArm c x | setEffectOff c x =>
    obtain ⟨m, on, off, n, l⟩ := x
    obtain ⟨t1, t0, rfl⟩ := exists_half on
    obtain ⟨o1, o0, rfl⟩ := exists_half off
    exact ⟨_, _, congrArg (fun bytes => some (Code.setEffect :: c :: _ :: bytes))
      (patternWire_read m t1 t0 o1 o0 n l), rfl⟩
  case powerOnReset | frameStart | csRise | unknownCode | encoderTransition | turntableIndex | markerByteReceived
    | markerGapExpiry | barCountEdge | motionTick | legEnd | retreatAtRest | preEnd | dwellEnd | postEnd
    | sceneTimerExpiry | ttPreEnd | turnEnd | turnRetreatAtRest | homingLimit | pairFilterAccept | occupancyChange
    | pullInEnd | releaseTimeout | concurTimeout | consentExpired | effectTimeBaseTick | effectIntervalEnd
    | effectLockout | audioSamplePeriod | clipPassEnd | fadeEnd | flashGrant | refillSampleArrives | refillDone
    | mountReadDone | byteSlot | resetRelease | startBit => exact trivial
  all_goals exact readable_rfl rfl rfl

theorem parseCommand_frameBytes (pins : Pins) {c : Instr} (wellFormed : c.wellFormed = true) (p : Port)
    (sender : c.sender = some p) : Readable p pins c := by
  have readable := readable_of_wellFormed pins wellFormed
  rw [sender] at readable
  exact readable

/-- Settles O14: the bytes of a command are read as it, and what is read has the bytes that were. -/
theorem commandBytesRoundTrip : Obligations.CommandBytesRoundTrip :=
  ⟨fun _ pins wellFormed p sender => parseCommand_frameBytes pins wellFormed p sender,
    fun _ _ _ _ _ read => ⟨(parseCommand_spelled read).sender, (parseCommand_spelled read).bytes⟩⟩

end Sys2Proof.Machine
end

section
/-! The bytes of a command, one slot each, and its own row (R192). -/

namespace Sys2Proof.Machine

-- One theorem at a time: each waits for the kernel, and many waiting at once are many threads.
set_option Elab.async false

/-! ## The port of a command in progress -/

/-- A port with this framer and command in progress. -/
def PortState.framedAs (f : Framer) (c : Option CommandInProgress) (x : PortState) : PortState :=
  { x with framer := f, inProgress := c }

/-- A slot begins alike whatever a frame's framer has decoded. -/
theorem slotBegun_framedAs {f : Framer} {x : PortState} (c : Option CommandInProgress)
    (after : f ≠ .deselected) (before : x.framer ≠ .deselected) :
    (x.framedAs f c).slotBegun = x.slotBegun.framedAs f c := by
  cases going : x.response with
  | none =>
    rw [slotBegun_of_empty before going, slotBegun_of_empty (x := x.framedAs f c) after going]; rfl
  | some r =>
    cases next : r.bytes[r.index]? with
    | none =>
      rw [slotBegun_of_sent before going next, slotBegun_of_sent (x := x.framedAs f c) after going next]; rfl
    | some b =>
      rw [slotBegun_of_byte before going next, slotBegun_of_byte (x := x.framedAs f c) after going next]; rfl

@[simp] theorem framer_slotsBegun (n : Nat) (x : PortState) : (PortState.slotBegun^[n] x).framer = x.framer := by
  induction n generalizing x with
  | zero => rfl
  | succ n ih => rw [Function.iterate_succ_apply, ih, framer_slotBegun]

@[simp] theorem inProgress_slotsBegun (n : Nat) (x : PortState) :
    (PortState.slotBegun^[n] x).inProgress = x.inProgress := by
  induction n generalizing x with
  | zero => rfl
  | succ n ih => rw [Function.iterate_succ_apply, ih, inProgress_slotBegun]

/-- A port that awaits a code, with no command in progress, is as a whole command leaves it. -/
theorem commandFramed_framedAs {f : Framer} {c : Option CommandInProgress} {x : PortState}
    (decoding : f = .awaitCode ∨ f = .arguments) (waits : x.framer = .awaitCode) (free : x.inProgress = none) :
    (x.framedAs f c).commandFramed = x := by
  rw [commandFramed_of_decoding decoding]
  obtain ⟨framer, progress⟩ := x
  cases waits
  cases free
  rfl

theorem commandFramed_self {x : PortState} (waits : x.framer = .awaitCode) (free : x.inProgress = none) :
    x.commandFramed = x := by
  rw [commandFramed_of_decoding (.inl waits), ← waits, ← free]

theorem onPort_onPort (s : State) (p : Port) (f g : PortState → PortState) :
    (s.onPort p f).onPort p g = s.onPort p fun x => g (f x) := by
  cases p <;> rfl

theorem onPort_congr {s : State} {p : Port} {f g : PortState → PortState}
    (h : f (s.ports.get p) = g (s.ports.get p)) : s.onPort p f = s.onPort p g := by
  cases p <;> simp only [State.onPort, State.onPorts, PerPort.modify, PerPort.get] at h ⊢ <;> rw [h]

/-! ## The bytes that a command owes -/

/-- These bytes are owed by a command in progress, the last of them completing it. -/
def CommandInProgress.Owes (c : CommandInProgress) : List Byte → Prop
  | [] => False
  | [b] => (c.joined b).owed = 0
  | b :: rest => 0 < (c.joined b).owed ∧ (c.joined b).Owes rest

/-- The bytes of actions that the count byte of a Load Cue will add, while it is to come (R192). -/
def CommandInProgress.toCome (c : CommandInProgress) (rest : List Byte) : Nat :=
  if c.code = Code.loadCue ∧ c.received.length < 12 then actionBytes (rest.getD (11 - c.received.length) 0)
  else 0

theorem joined_owed (b : Byte) (c : CommandInProgress) : (c.joined b).owed = c.owed - 1
    + if c.code = Code.loadCue ∧ c.received.length = 11 then actionBytes b else 0 := by
  simp [CommandInProgress.joined]

theorem joined_toCome (b : Byte) (c : CommandInProgress) (rest : List Byte) :
    (c.joined b).toCome rest = if c.code = Code.loadCue ∧ c.received.length < 11 then
      actionBytes (rest.getD (10 - c.received.length) 0) else 0 := by
  simp only [CommandInProgress.toCome, CommandInProgress.joined, List.length_append, List.length_singleton]
  congr 1
  · simp; omega
  · congr 2; omega

/-- A command owes as many bytes as follow, a Load Cue those of its actions besides. -/
theorem owes_of_length {c : CommandInProgress} {rest : List Byte}
    (length : rest.length = c.owed + c.toCome rest) (more : rest ≠ [])
    (fixed : c.code = Code.loadCue → c.received.length < 12 → c.owed = 12 - c.received.length) :
    c.Owes rest := by
  induction rest generalizing c with
  | nil => exact absurd rfl more
  | cons b rest ih =>
    have owed := joined_owed b c
    have toCome := joined_toCome b c rest
    have next : (c.joined b).owed + (c.joined b).toCome rest = rest.length := by
      rw [owed, toCome]
      by_cases cue : c.code = Code.loadCue
      · have fixed := fixed cue
        rcases Nat.lt_trichotomy c.received.length 11 with early | count | late
        · have place : 11 - c.received.length = 10 - c.received.length + 1 := by omega
          simp only [CommandInProgress.toCome, cue, show c.received.length < 12 by omega, early,
            Nat.ne_of_lt early, and_self, and_false, if_true, if_false, place, List.getD_cons_succ,
            List.length_cons] at length ⊢
          omega
        · simp only [CommandInProgress.toCome, cue, count, Nat.reduceLT, and_self, and_false, if_true, if_false,
            Nat.sub_self, List.getD_cons_zero, List.length_cons] at length ⊢
          omega
        · simp only [CommandInProgress.toCome, cue, show ¬ c.received.length < 12 by omega,
            Nat.not_lt_of_gt late, Nat.ne_of_gt late, and_false, if_false, List.length_cons] at length ⊢
          omega
      · simp only [CommandInProgress.toCome, cue, false_and, if_false, List.length_cons] at length ⊢
        omega
    have stillFixed : (c.joined b).code = Code.loadCue → (c.joined b).received.length < 12 →
        (c.joined b).owed = 12 - (c.joined b).received.length := by
      intro cue early
      simp only [CommandInProgress.joined, List.length_append, List.length_singleton] at cue early ⊢
      have := fixed cue (by omega)
      rw [if_neg (by omega)]
      omega
    cases rest with
    | nil =>
      simp only [List.length_nil] at next
      exact (by omega : (c.joined b).owed = 0)
    | cons d rest =>
      refine ⟨?_, ih next.symm (by simp) stillFixed⟩
      rw [toCome] at next
      by_cases early : c.code = Code.loadCue ∧ c.received.length < 11
      · have := fixed early.1 (by omega)
        rw [owed]
        omega
      · rw [if_neg early, List.length_cons] at next
        omega

/-! ## The bytes taken -/

section
variable {p : Port} {pins : Pins} {w : State} (live : w.inReset = false) (lines : w.pins = pins)
    (waits : (w.ports.get p).framer = .awaitCode) (free : (w.ports.get p).inProgress = none)

/-- A port in the slot of a byte of a command, `n` slots after its code began. -/
def State.spelling (p : Port) (n : Nat) (f : Framer) (c : Option CommandInProgress) (w : State) : State :=
  w.onPort p fun x => (PortState.slotBegun^[n] x).framedAs f c

/-- The bytes of a command, one slot each. -/
def spelled (p : Port) (pins : Pins) (bytes : List Byte) (o : Host.Outcome State Fault Refusal) :
    Host.Outcome State Fault Refusal :=
  bytes.foldl (fun o b => match o with | .next u => exec (.byteSlot p b pins) u | x => x) o

theorem spelled_cons {b : Byte} {bytes : List Byte} {u t : State}
    (h : exec (.byteSlot p b pins) u = .next t) :
    spelled p pins (b :: bytes) (.next u) = spelled p pins bytes (.next t) := by
  simp only [spelled, List.foldl_cons, h]

include waits free

theorem spelling_framed {n : Nat} {f : Framer} {c : Option CommandInProgress}
    (decoding : f = .awaitCode ∨ f = .arguments) :
    (w.spelling p n f c).onPort p (·.commandFramed) = w.onPort p (PortState.slotBegun^[n]) := by
  rw [State.spelling, onPort_onPort]
  exact onPort_congr (commandFramed_framedAs decoding (by simpa using waits) (by simpa using free))

theorem takeBytes_spelling {n : Nat} {f : Framer} {c : Option CommandInProgress}
    (decoding : f = .awaitCode ∨ f = .arguments) {code : Byte} {args : List Byte} {i : Instr}
    (read : parseCommand p pins code args = some i) :
    takeBytes p pins code args (w.spelling p n f c)
      = takeCommand i (w.onPort p (PortState.slotBegun^[n])) := by
  simp only [takeBytes, read, spelling_framed waits free decoding]

include live lines

/-- The argument bytes that a command owes complete it. -/
theorem spelled_arguments {args : List Byte} : ∀ (n : Nat) (c : CommandInProgress), c.Owes args →
    ∀ i, parseCommand p pins c.code (c.received ++ args) = some i →
    spelled p pins args (.next (w.spelling p n .arguments (some c)))
      = .next ((takeCommand i (w.onPort p (PortState.slotBegun^[n + args.length - 1]))).onPort p
          (·.slotBegun)) := by
  induction args with
  | nil => exact fun _ _ owes => owes.elim
  | cons b rest ih =>
    intro n c owes i read
    have same : (w.spelling p n .arguments (some c)).withPins pins = w.spelling p n .arguments (some c) := by
      subst lines; rfl
    have own : (w.spelling p n .arguments (some c)).ports.get p
        = (PortState.slotBegun^[n] (w.ports.get p)).framedAs .arguments (some c) := by
      simp [State.spelling]
    have framer : ((w.spelling p n .arguments (some c)).ports.get p).framer = .arguments := by rw [own]; rfl
    have progress : ((w.spelling p n .arguments (some c)).ports.get p).inProgress = some c := by
      rw [own]; rfl
    have slot := exec_byteSlot_next p b pins (s := w.spelling p n .arguments (some c)) live
    rw [same] at slot
    cases rest with
    | nil =>
      rw [byteReceived_completes p b pins framer progress owes,
        takeBytes_spelling waits free (.inr rfl) read] at slot
      rw [spelled_cons slot]
      rfl
    | cons d rest =>
      obtain ⟨owed, owes⟩ := owes
      rw [byteReceived_joins p b pins framer progress owed] at slot
      have joined : ((w.spelling p n .arguments (some c)).onPort p fun x =>
          { x with inProgress := some (c.joined b) }).onPort p (·.slotBegun)
          = w.spelling p (n + 1) .arguments (some (c.joined b)) := by
        rw [State.spelling, onPort_onPort, onPort_onPort]
        refine onPort_congr ?_
        rw [Function.iterate_succ_apply']
        exact slotBegun_framedAs (f := .arguments) (x := PortState.slotBegun^[n] (w.ports.get p))
          (some (c.joined b)) (by decide) (by simp [waits])
      rw [joined] at slot
      rw [spelled_cons slot, ih (n + 1) (c.joined b) owes i (by simpa [CommandInProgress.joined] using read)]
      congr 5
      simp only [List.length_cons]
      omega

end

/-! ## How many bytes a command has -/

/-- The bytes of a well-formed command are those that its code owes. -/
theorem argumentCount_parseCommand {p : Port} {pins : Pins} {code : Byte} {args : List Byte} {c : Instr}
    (h : parseCommand p pins code args = some c) (wellFormed : c.wellFormed = true) :
    ∃ n, argumentCount code = some n ∧ args.length = n + CommandInProgress.toCome ⟨code, [], n⟩ args
      ∧ (code = Code.loadCue → n = 12) := by
  have plain (count : argumentCount code = some args.length) (other : code ≠ Code.loadCue) :
      ∃ n, argumentCount code = some n ∧ args.length = n + CommandInProgress.toCome ⟨code, [], n⟩ args
        ∧ (code = Code.loadCue → n = 12) :=
    ⟨_, count, by simp [CommandInProgress.toCome, other], fun cue => absurd cue other⟩
  rcases (parseCommand_spelled h).count wellFormed with ⟨count, other⟩ | ⟨count, cue, length⟩
  · exact plain count other
  · exact ⟨12, count, by simpa [CommandInProgress.toCome, cue] using length, fun _ => rfl⟩

theorem seen_wellFormed (c : Instr) (pins : Pins) : (c.seen pins).wellFormed = c.wellFormed := by
  cases c <;> rfl

theorem seen_sender (c : Instr) (pins : Pins) : (c.seen pins).sender = c.sender := by
  cases c <;> rfl

/-- Settles O15: the code begins the command or is all of it, and its bytes complete it. -/
theorem bytesSpellTheRows : Obligations.BytesSpellTheRows := by
  intro c pins s live wellFormed p sender waits free
  obtain ⟨code, args, bytes, read⟩ := parseCommand_frameBytes pins wellFormed p sender
  obtain ⟨n, count, length, cue⟩ := argumentCount_parseCommand read (by rwa [seen_wellFormed])
  refine ⟨code :: args, bytes, ?_⟩
  change spelled p pins (code :: args) (.next s) = _
  have row : exec (c.seen pins) ((s.withPins pins).onPort p (PortState.slotBegun^[args.length]))
      = .next ((takeCommand (c.seen pins) ((s.withPins pins).onPort p (PortState.slotBegun^[args.length]))).onPort
          p (·.slotBegun)) := by
    rw [exec_eq_commandTaken ((seen_sender c pins).trans sender)]
    have framed : ((s.withPins pins).onPort p (PortState.slotBegun^[args.length])).onPort p (·.commandFramed)
        = (s.withPins pins).onPort p (PortState.slotBegun^[args.length]) := by
      rw [onPort_onPort]
      exact onPort_congr (commandFramed_self (by simpa using waits) (by simpa using free))
    rw [commandTaken_next (s := (s.withPins pins).onPort p (PortState.slotBegun^[args.length])) live, framed]
  have target : ∀ k, k = args.length →
      exec (c.seen pins) ((s.withPins pins).onPort p fun x => PortState.slotBegun^[k] x)
        = .next ((takeCommand (c.seen pins)
          ((s.withPins pins).onPort p (PortState.slotBegun^[args.length]))).onPort p (·.slotBegun)) := by
    rintro _ rfl; exact row
  rw [target _ (by simp)]
  have slot := exec_byteSlot_next p code pins live
  cases args with
  | nil =>
    have bare : n = 0 := by
      simp only [List.length_nil] at length
      omega
    rw [bare] at count
    have whole : (s.withPins pins).spelling p 0 .awaitCode none = s.withPins pins :=
      onPort_self (by simp only [PortState.framedAs, Function.iterate_zero, id, State.withPins_ports]; rw [← waits, ← free])
    rw [byteReceived_bare p code pins (s := s.withPins pins) waits count, ← whole,
      takeBytes_spelling (w := s.withPins pins) waits free (.inl rfl) read] at slot
    exact spelled_cons slot
  | cons b rest =>
    have owes : 0 < n := by
      by_contra none
      have zero : n = 0 := by omega
      have other : code ≠ Code.loadCue := fun is => by have := cue is; omega
      rw [zero] at length
      simp [CommandInProgress.toCome, other] at length
    rw [byteReceived_begins p code pins (s := s.withPins pins) waits count owes] at slot
    have begun : ((s.withPins pins).onPort p fun x =>
        { x with framer := .arguments, inProgress := some ⟨code, [], n⟩ }).onPort p (·.slotBegun)
        = (s.withPins pins).spelling p 1 .arguments (some ⟨code, [], n⟩) := by
      rw [State.spelling, onPort_onPort]
      exact onPort_congr (slotBegun_framedAs (f := .arguments) (x := s.ports.get p) _ (by decide) (by simp [waits]))
    rw [begun] at slot
    have spelt := spelled_arguments (p := p) (pins := pins) (w := s.withPins pins) live rfl waits free 1 ⟨code, [], n⟩
      (owes_of_length length (by simp) fun is _ => cue is) _ read
    rw [spelled_cons slot, spelt]
    rw [Nat.add_sub_cancel_left]

end Sys2Proof.Machine
end

section
/-! Write Setting, row by row (R202, R203). -/

namespace Sys2Proof.Machine

-- One theorem at a time: each waits for the kernel, and many waiting at once are many threads.
set_option Elab.async false

/-! ## The value that a write stores -/

theorem stepValue_stepOf (v : Nat) : stepValue (stepOf v) = v := by
  simp only [stepValue, stepOf]; omega

theorem stepOf_stepValue {x : RampStep} (h : x.length < 65536) : stepOf (stepValue x) = x := by
  obtain ⟨rate, length⟩ := x
  have h : length < 65536 := h
  simp only [stepValue, stepOf, RampStep.mk.injEq]
  omega

theorem accepts_range {st : Setting} {x : Settings} {v : Nat} (ok : st.accepts x v = true)
    (fits : v ≤ 4294967295) : st.range.1 ≤ v ∧ v ≤ st.range.2 := by
  have h := (st.accepts_iff x v).mp ok
  cases st with
  | rampCount => exact ⟨h.1, h.2.1⟩
  | rampStep k | turntableStep k => exact ⟨Nat.zero_le _, fits⟩
  | _ => exact h

theorem toNat_ofNat_of_le {w v k : Nat} (h : v ≤ k) (fits : k < 2 ^ w) : (BitVec.ofNat w v).toNat = v := by
  rw [BitVec.toNat_ofNat, Nat.mod_eq_of_lt (by omega)]

section
variable {s : State}

theorem storePairMask_settings (v : Nat) :
    (s.storePairMask v).settings = { s.settings with exclusivePairMask := BitVec.ofNat 6 v } :=
  (SameBut_foldl (fun t p => pairMasked_outside t s.settings.exclusivePairMask p) allPairs
    (s.onSettings fun x => { x with exclusivePairMask := BitVec.ofNat 6 v })).same .settings

theorem storePairMask_outside (v : Nat) : SameBut [.settings, .effects] s (s.storePairMask v) :=
  SameBut_seq (onSettings_outside s _)
    (SameBut_foldl (fun t p => pairMasked_outside t s.settings.exclusivePairMask p) allPairs _)

theorem storeEncoderLimit_settings (v : Nat) :
    (s.storeEncoderLimit v).settings = { s.settings with encoderErrorLimit := v } :=
  (testEncoders_outside (s.onSettings fun x => { x with encoderErrorLimit := v }) allAxes).same .settings

theorem storeEncoderLimit_outside (v : Nat) : SameBut [.records, .settings, .route, .motion, .drive,
    .turntable, .seats, .permit, .cues, .effects, .sound, .model] s (s.storeEncoderLimit v) :=
  SameBut_seq (onSettings_outside s _) (testEncoders_outside _ _)

theorem storeCounts_outside (v : Nat) : SameBut [.settings, .turntable] s (s.storeCounts v) :=
  SameBut_seq (onSettings_outside s _) (onTurntable_outside _ _)

/-- A change of a mask or a watch set of a port. -/
theorem onPort_masks_outside {p : Port} {f : PortState → PortState}
    (framing : ∀ x, (f x).framing = x.framing) : SameBut [.records, .masks] s (s.onPort p f) := by
  intro b
  cases b <;> simp [Block.same]
  intro q; split <;> simp [framing]

theorem admitted_noPermit (h : Setting.fittedSeatCount.admitted s = true) : s.permit.state = .noPermit := by
  have := (Setting.fittedSeatCount.admitted_iff s).mp h
  exact this.1

/-- A taken write leaves its setting with the value that it stores (R202). -/
theorem store_value (st : Setting) {v : Nat} (admitted : st.admitted s = true) (low : st.range.1 ≤ v)
    (high : v ≤ st.range.2) : st.value (st.store v s) = v := by
  cases st with
  | eventMask p =>
    have fits : v ≤ 536870911 := high
    simp [Setting.value, Setting.store, PortState.rederiveAttn]
    omega
  | watchSet p =>
    have fits : v ≤ 2047 := high
    simp [Setting.value, Setting.store]
    omega
  | encoderErrorLimit => exact congrArg Settings.encoderErrorLimit (storeEncoderLimit_settings v)
  | fittedSeatCount =>
    exact congrArg Settings.fittedSeatCount (refit_settings s v (admitted_noPermit admitted))
  | exclusivePairMask =>
    have set := congrArg (fun x : Settings => x.exclusivePairMask.toNat) (storePairMask_settings (s := s) v)
    exact set.trans (toNat_ofNat_of_le high (by decide))
  | safeOffMask => exact toNat_ofNat_of_le (k := 4095) high (by decide)
  | rampStep k | turntableStep k =>
    simp [Setting.value, Setting.store, stepValue_stepOf]
  | announcementClip k => simp [Setting.value, Setting.store]
  | servoHold =>
    have : v = 0 ∨ v = 1 := by simp only [Setting.range] at high; omega
    rcases this with rfl | rfl <;> rfl
  | _ => rfl

/-- The settings that are a number of their own, in the order of R203. -/
def plainSettings : List Setting :=
  [.encoderErrorLimit, .mismatchLimit, .rampCount, .preTime, .postTime, .servoHold,
   .wheelFollowingLimit, .turntableFollowingLimit, .countsPerRevolution, .fittedSeatCount,
   .occupancyFilterTime, .pairFilterTime, .barSlack, .pullInTime, .holdLevel, .releaseTimeout,
   .occupiedMinimum, .emptyMinimum, .concurWindow, .consentWindow, .safeOffMask, .exclusivePairMask,
   .flashSize, .duckLevel, .duckStep, .faultFadeStep, .announcementGain]

/-- Their values. -/
def Settings.plain (x : Settings) : List Nat :=
  [x.encoderErrorLimit, x.mismatchLimit, x.rampCount, x.preTime, x.postTime,
   if x.servoHold then 1 else 0, x.wheelFollowingLimit, x.turntableFollowingLimit,
   x.countsPerRevolution, x.fittedSeatCount, x.occupancyFilterTime, x.pairFilterTime, x.barSlack,
   x.pullInTime, x.holdLevel, x.releaseTimeout, x.occupiedMinimum, x.emptyMinimum, x.concurWindow,
   x.consentWindow, x.safeOffMask.toNat, x.exclusivePairMask.toNat, x.flashSize, x.duckLevel,
   x.duckStep, x.faultFadeStep, x.announcementGain]

/-- The place of a setting among them. -/
def Setting.place : Setting → Option Nat
  | .encoderErrorLimit => some 0 | .mismatchLimit => some 1 | .rampCount => some 2 | .preTime => some 3
  | .postTime => some 4 | .servoHold => some 5 | .wheelFollowingLimit => some 6
  | .turntableFollowingLimit => some 7 | .countsPerRevolution => some 8 | .fittedSeatCount => some 9
  | .occupancyFilterTime => some 10 | .pairFilterTime => some 11 | .barSlack => some 12
  | .pullInTime => some 13 | .holdLevel => some 14 | .releaseTimeout => some 15
  | .occupiedMinimum => some 16 | .emptyMinimum => some 17 | .concurWindow => some 18
  | .consentWindow => some 19 | .safeOffMask => some 20 | .exclusivePairMask => some 21
  | .flashSize => some 22 | .duckLevel => some 23 | .duckStep => some 24 | .faultFadeStep => some 25
  | .announcementGain => some 26
  | _ => none

theorem plain_place {s : State} {st : Setting} {i : Nat} (h : st.place = some i) :
    (plainSettings[i]?, s.settings.plain[i]?) = (some st, some (st.value s)) := by
  cases st <;> cases h <;> rfl

/-- The settings that are not among them: the masks and the tables. -/
theorem unplaced_cases {st : Setting} (h : st.place = none) :
    (∃ p, st = .eventMask p) ∨ (∃ p, st = .watchSet p) ∨ (∃ k, st = .rampStep k)
      ∨ (∃ k, st = .turntableStep k) ∨ ∃ k, st = .announcementClip k := by
  cases st <;> cases h <;> simp

/-- The masks and the tables. -/
def State.beyondPlain (s : State) :=
  (s.settings.ramp, s.settings.turntableRamp, s.settings.announcementClips,
    fun q => ((s.ports.get q).mask, (s.ports.get q).watch))

theorem value_beyondPlain {s t : State} (same : t.beyondPlain = s.beyondPlain) {st : Setting}
    (h : st.place = none) : st.value t = st.value s := by
  simp only [State.beyondPlain, Prod.mk.injEq] at same
  obtain ⟨ramp, turn, clips, masks⟩ := same
  rcases unplaced_cases h with ⟨p, rfl⟩ | ⟨p, rfl⟩ | ⟨k, rfl⟩ | ⟨k, rfl⟩ | ⟨k, rfl⟩
  · exact congrArg (fun m => (m p).1.toNat) masks
  · exact congrArg (fun m => (m p).2.toNat) masks
  · exact congrArg (fun r => stepValue (r[k]'k.isLt)) ramp
  · exact congrArg (fun r => stepValue (r[k]'k.isLt)) turn
  · exact congrArg (fun c => (c.get k : Nat)) clips

theorem beyondPlain_of_same {x : Settings} {t : State} (stored : t.settings = x)
    (ramp : x.ramp = s.settings.ramp) (turn : x.turntableRamp = s.settings.turntableRamp)
    (clips : x.announcementClips = s.settings.announcementClips) (masks : Block.masks.same s t) :
    t.beyondPlain = s.beyondPlain := by
  subst stored
  rw [State.beyondPlain, ramp, turn, clips]
  simp only [masks _]
  rfl

/-- A write of one of the plain settings changes its own place alone. -/
theorem store_plain {st : Setting} {v i : Nat} (admitted : st.admitted s = true) (h : st.place = some i) :
    ∃ w, ((st.store v s).settings.plain, (st.store v s).beyondPlain)
      = (s.settings.plain.set i w, s.beyondPlain) := by
  cases st <;> cases h
  case encoderErrorLimit =>
    have stored := storeEncoderLimit_settings (s := s) v
    exact ⟨v, Prod.ext (congrArg Settings.plain stored)
      (beyondPlain_of_same stored rfl rfl rfl ((storeEncoderLimit_outside v).same .masks))⟩
  case fittedSeatCount =>
    have free := admitted_noPermit admitted
    have stored := refit_settings s v free
    exact ⟨v, Prod.ext (congrArg Settings.plain stored)
      (beyondPlain_of_same stored rfl rfl rfl ((refit_free s v free).same .masks))⟩
  case exclusivePairMask =>
    have stored := storePairMask_settings (s := s) v
    exact ⟨_, Prod.ext ((congrArg Settings.plain stored).trans rfl)
      (beyondPlain_of_same stored rfl rfl rfl ((storePairMask_outside v).same .masks))⟩
  all_goals exact ⟨_, rfl⟩

/-- The same for the masks and the tables. -/
theorem store_unplaced {st st' : Setting} {v : Nat} (other : st' ≠ st) (h : st.place = none)
    (h' : st'.place = none) : st'.value (st.store v s) = st'.value s := by
  rcases unplaced_cases h with ⟨p, rfl⟩ | ⟨p, rfl⟩ | ⟨k, rfl⟩ | ⟨k, rfl⟩ | ⟨k, rfl⟩ <;>
    rcases unplaced_cases h' with ⟨q, rfl⟩ | ⟨q, rfl⟩ | ⟨j, rfl⟩ | ⟨j, rfl⟩ | ⟨j, rfl⟩
  case inl.inl =>
    have different : q ≠ p := fun same => other (congrArg Setting.eventMask same)
    simp [Setting.value, Setting.store, different]
  case inr.inl.inr.inl =>
    have different : q ≠ p := fun same => other (congrArg Setting.watchSet same)
    simp [Setting.value, Setting.store, different]
  case inl.inr.inl | inr.inl.inl =>
    simp only [Setting.value, Setting.store, State.onPort_ports, PerPort_get_modify]
    split <;> rfl
  case inr.inr.inl.inr.inr.inl =>
    have different : k.val ≠ j.val := fun same => other (congrArg Setting.rampStep (Fin.ext same.symm))
    simp [Setting.value, Setting.store, different]
  case inr.inr.inr.inl.inr.inr.inr.inl =>
    have different : k.val ≠ j.val :=
      fun same => other (congrArg Setting.turntableStep (Fin.ext same.symm))
    simp [Setting.value, Setting.store, different]
  case inr.inr.inr.inr.inr.inr.inr.inr =>
    have different : k.val ≠ j.val :=
      fun same => other (congrArg Setting.announcementClip (Fin.ext same.symm))
    simp [Setting.value, Setting.store, different]
  all_goals rfl

/-- A taken write leaves every other setting (R202). -/
theorem store_other (st st' : Setting) {v : Nat} (admitted : st.admitted s = true) (other : st' ≠ st) :
    st'.value (st.store v s) = st'.value s := by
  cases place' : st'.place with
  | some j =>
    have value {t : State} : t.settings.plain[j]? = some (st'.value t) := congrArg Prod.snd (plain_place place')
    suffices same : (st.store v s).settings.plain[j]? = s.settings.plain[j]? from
      Option.some.inj (value.symm.trans (same.trans value))
    cases place : st.place with
    | some i =>
      obtain ⟨w, stored⟩ := store_plain (v := v) admitted place
      have plain : (st.store v s).settings.plain = s.settings.plain.set i w := congrArg Prod.fst stored
      rw [plain, List.getElem?_set_ne]
      rintro rfl
      have named := congrArg Prod.fst (plain_place (s := s) place)
      exact other (Option.some.inj ((congrArg Prod.fst (plain_place (s := s) place')).symm.trans named))
    | none =>
      rcases unplaced_cases place with ⟨p, rfl⟩ | ⟨p, rfl⟩ | ⟨k, rfl⟩ | ⟨k, rfl⟩ | ⟨k, rfl⟩
      all_goals rfl
  | none =>
    cases place : st.place with
    | some i =>
      obtain ⟨_, stored⟩ := store_plain (v := v) admitted place
      exact value_beyondPlain (congrArg Prod.snd stored) place'
    | none =>
      exact store_unplaced other place place'

/-- A write of the value in force stores it again and changes nothing else (R202). -/
theorem store_same (st : Setting) (admitted : st.admitted s = true) (act : st ≠ .countsPerRevolution)
    (ports : s.PortsSound) (force : s.SettingsInForce) : st.store (st.value s) s = s := by
  obtain ⟨fitted, -, conditions, lengths, turnLengths⟩ := force
  cases st with
  | eventMask p =>
    refine onPort_self ?_
    obtain ⟨-, attn⟩ := ports p
    simp only [Setting.value, BitVec.ofNat_toNat, BitVec.setWidth_eq, PortState.rederiveAttn]
    rw [← attn]
  | watchSet p => exact onPort_self (by simp [Setting.value])
  | encoderErrorLimit =>
    have none : (s.onSettings fun x => { x with encoderErrorLimit := s.settings.encoderErrorLimit }).overErrorLimit
        allAxes = [] := by
      refine List.filter_eq_nil_iff.mpr fun i _ => ?_
      by_cases reached : s.settings.encoderErrorLimit ≤ s.route.errors.get i
      · simp [conditions i reached]
      · simp [reached]
    exact testEncoders_quiet none
  | rampStep k =>
    have same : stepOf (stepValue (s.settings.ramp[k]'k.isLt)) = s.settings.ramp[k]'k.isLt := stepOf_stepValue (lengths k)
    simp only [Setting.store, Setting.value, same]
    simp [State.onSettings]
  | turntableStep k =>
    have same : stepOf (stepValue (s.settings.turntableRamp[k]'k.isLt)) = s.settings.turntableRamp[k]'k.isLt :=
      stepOf_stepValue (turnLengths k)
    simp only [Setting.store, Setting.value, same]
    simp [State.onSettings]
  | announcementClip k => simp [Setting.store, Setting.value, State.onSettings]
  | servoHold =>
    obtain ⟨_, ⟨_, _, _, _, _, _, held⟩⟩ := s
    cases held <;> rfl
  | safeOffMask => simp [Setting.store, Setting.value, State.onSettings]
  | exclusivePairMask =>
    have same : s.onSettings (fun x =>
        { x with exclusivePairMask := BitVec.ofNat 6 s.settings.exclusivePairMask.toNat }) = s := by
      simp [State.onSettings]
    simp only [Setting.store, Setting.value, State.storePairMask, same]
    exact List.foldl_fixed' (fun p => by simp [State.pairMasked, State.exclusive]) _
  | fittedSeatCount =>
    have same : s.onSettings (fun x => { x with fittedSeatCount := s.settings.fittedSeatCount }) = s := rfl
    simp only [Setting.store, Setting.value, refit_eq, same]
    exact List.foldl_fixed' (fun i => by
      by_cases below : i.val < s.settings.fittedSeatCount <;> simp [State.refitSeat, fitted i, below]) _
  | countsPerRevolution => exact absurd rfl act
  | _ => rfl

end

/-! ## The command -/

/-- A command whose judgement is made in every port, outside RESET (the test of rights in it). -/
theorem judgedOnly_next {p : Port} {code : Byte} {j : State → Except Reason State} {s : State}
    {Q : State → Prop} (h : s.inReset = false)
    (judged : ∀ u t, SameBut [.framing] s u → (∀ r, j u = .error r → RefusedOn p r code s t)
      → (∀ v, j u = .ok v → SameBut [.framing] v t) → Q t) :
    ∃ t, commandTaken p (·.judged p code j) s = .next t ∧ Q t := by
  refine ⟨_, commandTaken_next h, judged _ _ (commandFramed_outside p s) (fun r hr => ?_) fun v hv => ?_⟩
  · rw [judged_error hr]
    exact RefusedOn.framed (commandFramed_outside p s) (refuse_refusedOn _ p r code) (slotBegun_outside p _)
  · rw [judged_ok hv]
    exact slotBegun_outside p _

/-- The blocks that a taken write may move (R2, R81, R94, R160, R199, R203). -/
theorem store_outside {s : State} (st : Setting) (v : Nat) (admitted : st.admitted s = true) : match st with
    | .eventMask q => SameBut [.records, .masks] s (st.store v s)
        ∧ ∀ r, ((st.store v s).ports.get r).events = (s.ports.get r).events
          ∧ ((st.store v s).ports.get r).lastRefusal = (s.ports.get r).lastRefusal
          ∧ (r ≠ q → ((st.store v s).ports.get r).attn = (s.ports.get r).attn)
    | .watchSet _ => SameBut [.masks] s (st.store v s)
    | .encoderErrorLimit => SameBut [.records, .settings, .route, .motion, .drive, .turntable, .seats,
        .permit, .cues, .effects, .sound, .model] s (st.store v s)
    | .countsPerRevolution => SameBut [.settings, .turntable] s (st.store v s)
    | .fittedSeatCount => SameBut [.records, .settings, .seats] s (st.store v s)
    | .exclusivePairMask => SameBut [.settings, .effects] s (st.store v s)
    | _ => SameBut [.settings] s (st.store v s) := by
  cases st with
  | eventMask q =>
    refine ⟨onPort_masks_outside fun _ => rfl, fun r => ?_⟩
    simp only [Setting.store, State.onPort_ports, PerPort_get_modify]
    split
    · next own => exact ⟨rfl, rfl, fun other => absurd own other⟩
    · exact ⟨rfl, rfl, fun _ => rfl⟩
  | watchSet q =>
    intro b
    cases b <;> simp [Block.same, Setting.store]
    · intro r; split <;> simp [PortState.framing]
    · intro r; split <;> simp [PortState.record]
  | encoderErrorLimit => exact storeEncoderLimit_outside v
  | countsPerRevolution => exact storeCounts_outside v
  | fittedSeatCount => exact refit_free s v (admitted_noPermit admitted)
  | exclusivePairMask => exact storePairMask_outside v
  | _ => exact onSettings_outside s _

/-- What a taken write leaves (R202): the clamped value, the other settings, and its rule's blocks. -/
def State.Written (st : Setting) (v : Nat) (s t : State) : Prop :=
  st.value t = (if st.clamped then max st.range.1 (min v st.range.2) else v)
  ∧ (∀ st' : Setting, st' ≠ st → st'.value t = st'.value s)
  ∧ (match st with
    | .eventMask q => SameBut [.framing, .records, .masks] s t
        ∧ ∀ r, (t.ports.get r).events = (s.ports.get r).events
          ∧ (t.ports.get r).lastRefusal = (s.ports.get r).lastRefusal
          ∧ (r ≠ q → (t.ports.get r).attn = (s.ports.get r).attn)
    | .watchSet _ => SameBut [.framing, .masks] s t
    | .encoderErrorLimit => SameBut [.framing, .records, .settings, .route, .motion,
        .drive, .turntable, .seats, .permit, .cues, .effects, .sound, .model] s t
    | .countsPerRevolution => SameBut [.framing, .settings, .turntable] s t
    | .fittedSeatCount => SameBut [.framing, .records, .settings, .seats] s t
    | .exclusivePairMask => SameBut [.framing, .settings, .effects] s t
    | _ => SameBut [.framing, .settings] s t)
  ∧ (st.value t = st.value s → st ≠ .countsPerRevolution → s.PortsSound →
      s.SettingsInForce → SameBut [.framing] s t)

/-- The values of the settings past the framing. -/
theorem value_framed {s t : State} (h : SameBut [.framing] s t) (st : Setting) :
    st.value t = st.value s :=
  Setting.value_congr (h.same .settings) (h.same .masks) st

theorem admitted_framed {s t : State} (h : SameBut [.framing] s t) (st : Setting) :
    st.admitted t = st.admitted s := by
  have motion : t.motion = s.motion := h.same .motion
  have tt : t.tt = s.tt := h.same .turntable
  have permit : t.permit = s.permit := h.same .permit
  have seats : t.seats = s.seats := h.same .seats
  cases st with
  | fittedSeatCount => simp only [Setting.admitted, motion, permit, State.seat, seats]; rfl
  | _ => simp only [Setting.admitted, motion, tt]

theorem portsSound_framed {s t : State} (h : SameBut [.framing] s t) (sound : s.PortsSound) :
    t.PortsSound :=
  Part.kept_of_same (x := .ports) (fun b hb => h.same b (by
    rcases List.mem_cons.mp hb with rfl | hb
    · decide
    · cases List.mem_singleton.mp hb; decide)) sound

theorem settingsInForce_framed {s t : State} (h : SameBut [.framing] s t) (force : s.SettingsInForce) :
    t.SettingsInForce :=
  Part.kept_of_same (x := .force) (fun b hb => by
    simp only [Part.blocks, List.mem_cons, List.not_mem_nil, or_false] at hb
    rcases hb with rfl | rfl | rfl
    · exact h.same .settings
    · exact h.same .seats
    · exact h.same .route) force

/-- The value that a write stores lies in its setting's range. -/
theorem stored_range {st : Setting} {x : Settings} {v : Nat} (fits : v ≤ 4294967295)
    (ok : st.clamped = true ∨ st.accepts x v = true) :
    st.range.1 ≤ st.stored v ∧ st.stored v ≤ st.range.2 := by
  unfold Setting.stored
  cases clamped : st.clamped with
  | true =>
    have ordered : st.range.1 ≤ st.range.2 := by cases st <;> first | cases clamped; done | decide
    simp only [if_true, clampNat]
    omega
  | false =>
    rw [clamped] at ok
    exact accepts_range (ok.resolve_left (by simp)) fits

/-- A taken write, past the framing around it. -/
theorem written_framed {st : Setting} {v : Nat} {s u t : State} (hu : SameBut [.framing] s u)
    (ht : SameBut [.framing] (st.store (st.stored v) u) t) (admitted : st.admitted s = true)
    (fits : v ≤ 4294967295) (ok : st.clamped = true ∨ st.accepts s.settings v = true) :
    s.Written st v t := by
  rw [← admitted_framed hu] at admitted
  obtain ⟨low, high⟩ := stored_range fits ok
  have value : st.value t = st.stored v :=
    (value_framed ht st).trans (store_value st admitted low high)
  refine ⟨value, fun st' other => ?_, ?_, fun held act ports force => ?_⟩
  · rw [value_framed ht, store_other st st' admitted other, value_framed hu]
  · have outside := store_outside (s := u) st (st.stored v) admitted
    cases st with
    | eventMask q =>
      obtain ⟨frame, others⟩ := outside
      refine ⟨SameBut.framed hu frame ht, fun r => ?_⟩
      obtain ⟨events, last, attn⟩ := others r
      have before := (hu.same .records) r
      have after := (ht.same .records) r
      simp only [PortState.record, Prod.mk.injEq] at before after
      obtain ⟨events', attn', last'⟩ := before
      obtain ⟨events'', attn'', last''⟩ := after
      exact ⟨events''.trans (events.trans events'), last''.trans (last.trans last'),
        fun other => attn''.trans ((attn other).trans attn')⟩
    | _ => exact SameBut.framed hu outside ht
  · have same : st.stored v = st.value u := by rw [← value, held, value_framed hu]
    rw [same, store_same st admitted act (portsSound_framed hu ports) (settingsInForce_framed hu force)] at ht
    exact SameBut_seq hu ht

/-- Write Setting of a number by the tests of R202 in their order. -/
theorem takeWriteSetting_next (p : Port) (n : Nat) (v : BitVec 32) {s : State} (h : s.inReset = false) :
    ∃ t, commandTaken p (takeWriteSetting p n v) s = .next t
      ∧ match settingOf n with
        | none => RefusedOn p .range 0x03 s t
        | some st =>
          if st.owner ≠ p then RefusedOn p .rights 0x03 s t
          else if st.admitted s = false then RefusedOn p .state 0x03 s t
          else if st.clamped = false ∧ st.accepts s.settings v.toNat = false then
            RefusedOn p .range 0x03 s t
          else s.Written st v.toNat t := by
  refine judgedOnly_next (j := (·.writeJudged p n v.toNat)) h fun u t hu refused taken => ?_
  cases named : settingOf n with
  | none => exact refused .range (by simp only [State.writeJudged, named])
  | some st =>
    have settings : u.settings = s.settings := hu.same .settings
    simp only [State.writeJudged, named, admitted_framed hu, settings] at refused taken
    show if st.owner ≠ p then RefusedOn p .rights 0x03 s t
      else if st.admitted s = false then RefusedOn p .state 0x03 s t
      else if st.clamped = false ∧ st.accepts s.settings v.toNat = false then
        RefusedOn p .range 0x03 s t
      else s.Written st v.toNat t
    by_cases owner : st.owner = p
    · by_cases admitted : st.admitted s = true
      · by_cases bad : st.clamped = false ∧ st.accepts s.settings v.toNat = false
        · obtain ⟨clamped, accepts⟩ := bad
          rw [if_neg (not_not.mpr owner), if_neg (by simp [admitted]), if_pos ⟨clamped, accepts⟩]
          exact refused .range (by simp [owner, admitted, clamped, accepts])
        · rw [if_neg (not_not.mpr owner), if_neg (by simp [admitted]), if_neg bad]
          have ok : st.clamped = true ∨ st.accepts s.settings v.toNat = true := by
            rcases clamped : st.clamped with _ | _
            · exact .inr (by simpa [clamped] using bad)
            · exact .inl rfl
          have accepted : ¬ ((!st.clamped && !st.accepts s.settings v.toNat) = true) := by
            rcases ok with ok | ok <;> simp [ok]
          exact written_framed hu (taken _ (by simp only [owner, admitted, ne_eq, not_true, if_false, Bool.not_true, accepted]; rfl)) admitted
            (Nat.le_of_lt_succ v.isLt) ok
      · rw [if_neg (not_not.mpr owner), if_pos (by simpa using admitted)]
        exact refused .state (by simp [owner, admitted])
    · rw [if_pos owner]
      exact refused .rights (by simp [owner])

/-- Settles O12: each row of the table is Write Setting of its number. -/
theorem writeSettingTests : Obligations.WriteSettingTests := by
  intro p q n e k v s h x listed
  simp only [List.mem_cons, List.not_mem_nil, or_false] at listed
  rcases listed with rfl | rfl | rfl | rfl | rfl | rfl | rfl | rfl | rfl
  · exact takeWriteSetting_next p _ v h
  · exact takeWriteSetting_next p (Setting.eventMask q).number v h
  · exact takeWriteSetting_next p (Setting.watchSet q).number v h
  · exact takeWriteSetting_next p Setting.encoderErrorLimit.number v h
  · cases e with
    | count => exact takeWriteSetting_next p Setting.rampCount.number v h
    | step j => exact takeWriteSetting_next p (Setting.rampStep j).number v h
  · exact takeWriteSetting_next p Setting.countsPerRevolution.number v h
  · exact takeWriteSetting_next p (Setting.turntableStep k).number v h
  · exact takeWriteSetting_next p Setting.fittedSeatCount.number v h
  · exact takeWriteSetting_next p Setting.exclusivePairMask.number v h

end Sys2Proof.Machine
end

section
/-! The marker reader line (R7, R8). -/

namespace Sys2Proof.Machine

-- One theorem at a time: each waits for the kernel, and many waiting at once are many threads.
set_option Elab.async false

/-- A byte that completes no frame moves the framer alone (R7, R8). -/
theorem markerByte_framer {b : Byte} {stop : Bool} {s : State}
    (h : stop = false ∨ s.route.framer.all (b ≠ ~~~·.byte) = true) :
    s.markerByte b stop
      = s.setFramer (if stop = false ∨ b = 0 ∨ b = 255 then none else some ⟨b, some 2⟩) := by
  cases stop with
  | false => rfl
  | true =>
    have fresh : (if idleCode b then none else some (⟨b, some Config.markerGap⟩ : PendingByte))
        = if true = false ∨ b = 0 ∨ b = 255 then none else some ⟨b, some 2⟩ := by
      simp [idleCode, Config.markerGap]
    have open_ : s.route.framer.all (b ≠ ~~~·.byte) = true := h.resolve_left nofun
    unfold State.markerByte
    rw [if_neg nofun, fresh]
    cases pending : s.route.framer with
    | none => rfl
    | some p =>
      rw [pending] at open_
      exact if_neg (of_decide_eq_true open_)

/-- Settles O17: each of the three moves the framer, by the state of the framer. -/
theorem markerFraming : Obligations.MarkerFraming := by
  intro b stop s live
  refine ⟨fun noFrame => ⟨_, eventTaken_next live, ?_, ?_⟩, ⟨_, eventTaken_next live, ?_, ?_⟩,
    ⟨_, eventTaken_next live, onRoute_outside s _, ?_⟩⟩
  · rw [markerByte_framer noFrame]; exact onRoute_outside s _
  · rw [markerByte_framer noFrame]; rfl
  · exact SameBut_ite (onRoute_outside s _) (SameBut_refl _ s)
  · show (s.gapExpires).route = _
    unfold State.gapExpires
    split <;> rfl
  · refine congrArg (fun f => { s.route with framer := f }) ?_
    cases s.route.framer <;> rfl

end Sys2Proof.Machine
end

section
/-! The queue of legs (R19 to R22). -/

namespace Sys2Proof.Machine

-- One theorem at a time: each waits for the kernel, and many waiting at once are many threads.
set_option Elab.async false

/-- A byte that is the position of one of two values. -/
theorem nth_two {α : Type} (x y : α) (b : Byte) :
    nth [x, y] b = if 1 < b.toNat then none else some (if b = 0 then x else y) := by
  have zero : b = 0 ↔ b.toNat = 0 := BitVec.toNat_inj.symm
  simp only [zero]
  unfold nth
  generalize b.toNat = n
  rcases n with _ | _ | n <;> simp

theorem seekSpecOf_some (m a : Byte) : seekSpecOf (some (m, a))
    = if m = 0 ∨ m = 255 ∨ 1 < a.toNat then none
      else some (some ⟨m.toNat, if a = 0 then .align else .mark⟩) := by
  unfold seekSpecOf seekActionOf
  simp only [markerIdOk_eq, nth_two]
  by_cases id : m = 0 ∨ m = 255
  · have bad : m = 0 ∨ m = 255 ∨ 1 < a.toNat := id.elim .inl (.inr ∘ .inl)
    rw [decide_eq_false (not_not.mpr id), if_pos bad]
  · rw [decide_eq_true id]
    by_cases action : 1 < a.toNat
    · rw [if_pos action, if_pos (.inr (.inr action))]
    · have good : ¬ (m = 0 ∨ m = 255 ∨ 1 < a.toNat) := by tauto
      rw [if_neg action, if_neg good]

theorem appendJudged_eq (s : State) (l : LegBytes) (m a : Byte) {seek : Option (Byte × Byte)}
    (named : seek = none ∨ seek = some (m, a)) : s.appendJudged l seek =
      if 1 < l.direction.toNat ∨ 1 < l.flow.toNat ∨ l.length = 0
          ∨ (seek.isSome ∧ (m = 0 ∨ m = 255 ∨ 1 < a.toNat ∨ l.flow = 1
            ∨ s.route.markers.all (·.id ≠ m.toNat))) then .error .range
      else if 8 ≤ s.motion.queue.length then .error .full
      else if l.flow = 1 ∧ (s.motion.queue.getLast?.or (s.motion.current.map (·.leg))).any
          (·.direction ≠ if l.direction = 0 then .fwd else .rev) then .error .range
      else .ok (s.onMotion fun x => { x with queue := x.queue ++ [
        { direction := if l.direction = 0 then .fwd else .rev, length := l.length.toNat,
          top := min l.top.toNat (s.settings.rampCount - 1),
          steer := max (-1023) (min l.steer.toInt 1023), flow := l.flow = 1,
          dwell := l.dwell.toNat, tag := l.tag.toNat,
          seek := seek.map fun _ => ⟨m.toNat, if a = 0 then .align else .mark⟩ }] }) := by
  unfold State.appendJudged
  simp only [travelOf, yesNoOf, nth_two]
  by_cases direction : 1 < l.direction.toNat
  · simp [direction]
  by_cases flows : 1 < l.flow.toNat
  · simp [flows, direction]
  have before : s.motion.legBefore = s.motion.queue.getLast?.or (s.motion.current.map (·.leg)) := by
    unfold MotionGenerator.legBefore
    cases s.motion.queue.getLast? <;> rfl
  have flow : (if l.flow = 0 then false else true) = decide (l.flow = 1) := by
    have one : l.flow = 1 ↔ l.flow.toNat = 1 := BitVec.toNat_inj.symm
    have zero : l.flow = 0 ↔ l.flow.toNat = 0 := BitVec.toNat_inj.symm
    simp only [one, zero]
    generalize l.flow.toNat = n at flows
    rcases n with _ | _ | n <;> simp at flows ⊢
  have length : l.length.toNat = 0 ↔ l.length = 0 := BitVec.toNat_inj (y := 0)
  rw [if_neg direction, if_neg flows, flow, before]
  simp only [length, direction, flows, false_or]
  rcases named with rfl | rfl
  · simp [seekSpecOf, State.seekKnown, Config.queueCapacity, legOf, steerOf, clampInt]
  · rw [seekSpecOf_some]
    by_cases bytes : m = 0 ∨ m = 255 ∨ 1 < a.toNat
    · have bad : l.length = 0 ∨ ((some (m, a)).isSome ∧ (m = 0 ∨ m = 255 ∨ 1 < a.toNat ∨ l.flow = 1
          ∨ s.route.markers.all (·.id ≠ m.toNat))) := .inr ⟨rfl, by tauto⟩
      rw [if_pos bytes, if_pos bad]
    · have unknown : (!s.seekKnown (some ⟨m.toNat, if a = 0 then .align else .mark⟩)) = true
          ↔ s.route.markers.all (·.id ≠ m.toNat) := by simp [State.seekKnown]
      rw [if_neg bytes]
      simp only [not_or] at bytes
      simp only [unknown, Option.isSome_some, true_and, bytes, false_or, ite_or, decide_eq_true_eq]
      rfl

/-- Append Leg and Append Seek Leg by R20. -/
theorem append_next {c : Instr} {p : Port} {code : Byte} (l : LegBytes) (m a : Byte)
    {seek : Option (Byte × Byte)} {s : State} (h : s.inReset = false)
    (named : seek = none ∨ seek = some (m, a))
    (row : exec c s = commandTaken p
      (·.allowed [.a] p code (·.judged p code (·.appendJudged l seek))) s) :
    ∃ t, exec c s = .next t
      ∧ if p ≠ .a then RefusedOn p .rights code s t
        else if 1 < l.direction.toNat ∨ 1 < l.flow.toNat ∨ l.length = 0
            ∨ (seek.isSome ∧ (m = 0 ∨ m = 255 ∨ 1 < a.toNat ∨ l.flow = 1
              ∨ s.route.markers.all (·.id ≠ m.toNat))) then RefusedOn p .range code s t
        else if 8 ≤ s.motion.queue.length then RefusedOn p .full code s t
        else if l.flow = 1 ∧ (s.motion.queue.getLast?.or (s.motion.current.map (·.leg))).any
            (·.direction ≠ if l.direction = 0 then .fwd else .rev) then RefusedOn p .range code s t
        else
          t.motion = { s.motion with queue := s.motion.queue ++ [
            { direction := if l.direction = 0 then .fwd else .rev, length := l.length.toNat,
              top := min l.top.toNat (s.settings.rampCount - 1),
              steer := max (-1023) (min l.steer.toInt 1023), flow := l.flow = 1,
              dwell := l.dwell.toNat, tag := l.tag.toNat,
              seek := seek.map fun _ => ⟨m.toNat, if a = 0 then .align else .mark⟩ }] }
          ∧ SameBut [.framing, .motion] s t := by
  rw [row]
  refine judgedCommand_next h fun u t hu refused accepted => ?_
  have route : u.route = s.route := hu.same .route
  have motion : u.motion = s.motion := hu.same .motion
  have settings : u.settings = s.settings := hu.same .settings
  simp only [appendJudged_eq u l m a named, route, motion, settings] at refused accepted
  generalize (if l.direction = 0 then Travel.fwd else Travel.rev) = direction at refused accepted ⊢
  split
  · next range => exact refused _ (if_pos range)
  next range =>
  split
  · next full => exact refused _ (by rw [if_neg range, if_pos full])
  next full =>
  split
  · next flow => exact refused _ (by rw [if_neg range, if_neg full, if_pos flow])
  next flow =>
  have ht := accepted _ (by rw [if_neg range, if_neg full, if_neg flow])
  refine ⟨?_, SameBut.framed hu (onMotion_outside u _) ht⟩
  rw [show t.motion = _ from ht.same .motion, State.onMotion_motion, motion]

/-- Settles O20: the appends by their judgement, the flush by its effect. -/
theorem appendAndFlushLegs : Obligations.AppendAndFlushLegs := by
  refine ⟨fun p l m a s h => ?_, fun p s h => ?_⟩
  · simp only [List.forall_mem_cons, List.not_mem_nil, false_implies, implies_true, and_true]
    exact ⟨append_next l m a h (.inl rfl) rfl, append_next l m a h (.inr rfl) rfl⟩
  · refine allowedCommand_next h fun _ u t hu ht => ⟨?_, SameBut.framed hu (onMotion_outside u _) ht⟩
    rw [show t.motion = _ from ht.same .motion, State.onMotion_motion, show u.motion = _ from hu.same .motion]
    refine congrArg (fun c => { s.motion with queue := [], current := s.motion.current.map c }) ?_
    funext c
    unfold CurrentLeg.exitZeroed
    cases c.exitStep <;> rfl

end Sys2Proof.Machine
end

section
/-! Phase entries told to the ports, POST, and the ends of the timed periods (R25, R26, R29, R38, R39). -/

namespace Sys2Proof.Machine

-- One theorem at a time: each waits for the kernel, and many waiting at once are many threads.
set_option Elab.async false

/-! ## What is told in sequence -/

theorem foldl_flags_or (es : List Event) (x y : BitVec 32) :
    es.foldl (fun m e => m ||| e.flag) (x ||| y) = es.foldl (fun m e => m ||| e.flag) x ||| y := by
  induction es generalizing x with
  | nil => rfl
  | cons e es ih => rw [List.foldl_cons, List.foldl_cons, BitVec.or_assoc, BitVec.or_comm y, ← BitVec.or_assoc, ih]

theorem Told.trans {es es' : List Event} {phases phases' : List Phase} {s t u : State}
    (masks : Block.masks.same s t) (h : Told es phases s t) (k : Told es' phases' t u) :
    Told (es ++ es') (phases ++ phases') s u := by
  intro p
  obtain ⟨events, attn, last⟩ := h p
  obtain ⟨events', attn', last'⟩ := k p
  obtain ⟨mask, watch⟩ := masks p
  have watches : (t.ports.get p).watches = (s.ports.get p).watches := by
    funext ph
    rw [PortState.watches, PortState.watches, watch]
  rw [watches] at events' attn'
  rw [mask] at attn'
  refine ⟨?_, ?_, last'.trans last⟩
  · rw [events', events, List.foldl_append, List.any_append]
    cases phases.any (s.ports.get p).watches <;> cases phases'.any (s.ports.get p).watches
    all_goals simp [foldl_flags_or, BitVec.or_assoc]
  · rw [List.any_append]
    cases quiet : es'.isEmpty && !phases'.any (s.ports.get p).watches with
    | true =>
      obtain ⟨empty, unwatched⟩ := (Bool.and_eq_true _ _).mp quiet
      rw [List.isEmpty_iff] at empty
      subst empty
      rw [Bool.not_eq_true'] at unwatched
      rw [quiet, if_pos rfl] at attn'
      simp only [unwatched, Bool.false_eq_true, if_false, List.foldl_nil] at events'
      rw [attn', attn, events', List.append_nil, unwatched, Bool.or_false]
    | false =>
      rw [quiet, if_neg nofun] at attn'
      rw [attn', if_neg]
      cases es' <;> simp_all

theorem Told.of_same {s t : State} (records : Block.records.same s t) : Told [] [] s t := by
  intro p
  have same := records p
  simp only [PortState.record, Prod.mk.injEq] at same
  obtain ⟨events, attn, last⟩ := same
  simp [events, attn, last]

theorem enterPhase_told {s : State} {ph : Phase} (entered : s.motion.phase ≠ ph) :
    Told [] [ph] s (s.enterPhase ph) := by
  intro p
  unfold State.enterPhase
  rw [if_neg entered]
  simp only [State.latchEntry_ports, PerPort_get_map, State.onMotion_ports]
  split <;> simp_all
/-! ## POST -/

@[simp] theorem cutNow_direction (d : DriveUnit) : d.cutNow.direction = d.direction := rfl

section
variable (s : State)

theorem establish_direction (i : Axis) : (s.establish i).drive.direction = s.drive.direction := by
  unfold State.establish
  dsimp only
  split <;> rfl

theorem rederive_direction : s.rederive.drive.direction = s.drive.direction := by
  have known : (allAxes.foldl State.establish s).drive.direction = s.drive.direction := by
    simp only [allAxes, List.foldl_cons, List.foldl_nil, establish_direction]
  unfold State.rederive
  split
  · rfl
  split
  · rfl
  unfold State.driveFall
  generalize allAxes.foldl State.establish s = t at known
  dsimp only
  split <;> exact known

/-- IDLE as the end of POST enters it, drive enable not yet re-derived (R39). -/
def State.postEnded (s : State) : State :=
  (State.onMotion (fun m => { m with servoLatch := s.settings.servoHold, phaseTimer := none })
    (s.onDrive fun d => { d with brakeRelease := false })).enterPhase .idle

theorem finishPost_eq : s.finishPost = s.postEnded.rederive := rfl

theorem postEnded_motion : s.postEnded.motion =
    { s.motion with phase := .idle, phaseTimer := none, servoLatch := s.settings.servoHold } := by
  simp [State.postEnded]

theorem postEnded_drive : s.postEnded.drive = { s.drive with brakeRelease := false } := by
  simp [State.postEnded]

theorem postEnded_seats : s.postEnded.seats = s.seats := by
  simp [State.postEnded]

theorem finishPost_motion : s.finishPost.motion =
    { s.motion with phase := .idle, phaseTimer := none, servoLatch := s.settings.servoHold } := by
  rw [finishPost_eq, rederive_motion, postEnded_motion]

theorem finishPost_brake : s.finishPost.drive.brakeRelease = false :=
  Bool.eq_false_iff.mpr fun on => by
    have before := (rederive_rederived s.postEnded).brake on
    rw [postEnded_drive] at before
    cases before

theorem finishPost_enable :
    s.finishPost.drive.enable = (s.settings.servoHold || s.tt.phase != .idle) := by
  rw [finishPost_eq, rederive_enable, State.driveWanted, postEnded_motion]
  simp [State.postEnded, Phase.drives, Bool.or_comm]

theorem finishPost_direction : s.finishPost.drive.direction = s.drive.direction := by
  rw [finishPost_eq, rederive_direction, postEnded_drive]

theorem finishPost_told (phase : s.motion.phase ≠ .idle) : Told [] [.idle] s s.finishPost := by
  have entered : Told [] [.idle] s s.postEnded := enterPhase_told phase
  unfold Told
  rw [finishPost_eq, rederive_ports]
  exact entered

/-- POST as it is entered, its time not yet looked at (R39). -/
def State.postBegun (s : State) : State :=
  (s.onMotion fun m =>
    { m with current := none, retreat := none, phaseTimer := some s.settings.postTime }).enterPhase .post

theorem enterPost_eq : s.enterPost = if s.settings.postTime = 0 then s.postBegun.finishPost else s.postBegun := by
  have settings : s.postBegun.settings = s.settings := by simp [State.postBegun]
  rw [← settings]
  rfl

theorem postBegun_motion : s.postBegun.motion =
    { s.motion with
      current := none, retreat := none, phase := .post, phaseTimer := some s.settings.postTime } := by
  simp [State.postBegun]

theorem postBegun_told (phase : s.motion.phase ≠ .post) : Told [] [.post] s s.postBegun :=
  enterPhase_told (s := s.onMotion fun m =>
    { m with current := none, retreat := none, phaseTimer := some s.settings.postTime }) phase

theorem postBegun_outside : SameBut [.records, .motion] s s.postBegun :=
  SameBut_seq (onMotion_outside s _) (enterPhase_outside _ _)

/-- POST as it is entered, and its end where the post time is 0 (R39). -/
theorem enterPost_motion : s.enterPost.motion =
    if s.settings.postTime = 0 then
      { s.motion with
        current := none, retreat := none, phase := .idle, phaseTimer := none
        servoLatch := s.settings.servoHold }
    else
      { s.motion with
        current := none, retreat := none, phase := .post, phaseTimer := some s.settings.postTime } := by
  rw [enterPost_eq]
  split
  · rw [finishPost_motion, postBegun_motion, show s.postBegun.settings = s.settings from
      (postBegun_outside s).same .settings]
  · exact postBegun_motion s

theorem enterPost_inPost : s.InPost s.enterPost := by
  unfold State.InPost
  rw [enterPost_motion]
  split
  · next zero =>
    rw [enterPost_eq, if_pos zero]
    exact ⟨rfl, rfl, rfl, rfl, rfl, finishPost_brake _⟩
  · exact ⟨rfl, rfl, rfl, rfl, rfl⟩

theorem enterPost_told (phase : s.motion.phase ≠ .post) :
    Told [] (if s.settings.postTime = 0 then [.post, .idle] else [.post]) s s.enterPost := by
  have entered := postBegun_told s phase
  rw [enterPost_eq]
  split
  · exact Told.trans ((postBegun_outside s).same .masks) entered
      (finishPost_told _ (by rw [postBegun_motion]; nofun))
  · exact entered

/-! ## Starts and HELD -/

theorem heldWithoutLeg_motion : s.heldWithoutLeg.motion =
    { s.motion with current := none, retreat := none, phaseTimer := none, phase := .held } := by
  simp [State.heldWithoutLeg]

theorem heldWithoutLeg_outside : SameBut [.records, .motion] s s.heldWithoutLeg :=
  SameBut_seq (onMotion_outside s _) (enterPhase_outside _ _)

theorem heldWithoutLeg_told (phase : s.motion.phase ≠ .held) : Told [] [.held] s s.heldWithoutLeg :=
  enterPhase_told (s := s.onMotion fun m =>
    { m with current := none, retreat := none, phaseTimer := none }) phase

theorem runPhase_zero (top : Nat) : runPhase 0 top = if top = 0 then .cruise else .accel := by
  simp [runPhase]

/-- The head leg as it starts from rest (R31). -/
theorem startFromRest_started {l : Leg} {rest : List Leg} (queue : s.motion.queue = l :: rest) :
    s.StartedFromRest s.startFromRest
      ∧ s.startFromRest.motion.holds = s.motion.holds
      ∧ s.startFromRest.drive = { s.drive with accumulator := 0, residual := 0 }
      ∧ SameBut [.records, .motion, .drive] s s.startFromRest := by
  unfold State.StartedFromRest State.startFromRest
  simp only [queue, enterPhase_motion, enterPhase_drive, runPhase_zero]
  exact ⟨⟨rfl, rfl, rfl⟩, rfl, rfl, SameBut_seq (SameBut_seq (c := [.motion, .drive]) (onDrive_outside s _)
    (onMotion_outside _ _)) (enterPhase_outside _ _)⟩

theorem startFromRest_told {l : Leg} {rest : List Leg} (queue : s.motion.queue = l :: rest)
    (phase : s.motion.phase = .pre ∨ s.motion.phase = .dwell ∨ s.motion.phase = .post ∨ s.motion.phase = .held) :
    Told [] [s.startFromRest.motion.phase] s s.startFromRest := by
  unfold State.startFromRest
  simp only [queue, enterPhase_motion]
  refine enterPhase_told (s := s.clearFractions.onMotion fun m => { m with
    queue := rest, current := some (currentOf s.settings.rampCount l 0 0), phaseTimer := none
    retreat := none }) fun same => ?_
  change s.motion.phase = _ at same
  rw [same] at phase
  unfold runPhase at phase
  split at phase <;> simp at phase

/-! ## The ends of the timed periods -/

theorem isEmpty_iff {h : HoldSet} : h.isEmpty = true ↔ h = ⟨false, false, false⟩ := by
  obtain ⟨ride, shows, scene⟩ := h
  simp [HoldSet.isEmpty, and_assoc]

/-- What follows the end of PRE or DWELL, by the first line that holds (R29, R38). -/
theorem afterPeriod_cases (phase : s.motion.phase = .pre ∨ s.motion.phase = .dwell) :
    SameBut [.records, .motion, .drive, .seats, .model] s s.afterPeriod
      ∧ if s.motion.holds ≠ ⟨false, false, false⟩ then
          s.HeldNoLeg s.afterPeriod ∧ s.afterPeriod.motion.holds = s.motion.holds
          ∧ Told [] [.held] s s.afterPeriod ∧ s.afterPeriod.drive = s.drive
        else if s.motion.queue = [] ∨ s.permit.state ≠ .granted then
          s.InPost s.afterPeriod ∧ s.afterPeriod.motion.queue = s.motion.queue
          ∧ Told (if s.motion.queue = [] then [.queueEmpty] else [])
              (if s.settings.postTime = 0 then [.post, .idle] else [.post]) s s.afterPeriod
        else
          s.StartedFromRest s.afterPeriod ∧ s.afterPeriod.motion.holds = s.motion.holds
          ∧ Told [] [s.afterPeriod.motion.phase] s s.afterPeriod
          ∧ s.afterPeriod.drive = { s.drive with accumulator := 0, residual := 0 } := by
  have queue (t : State) : t.enterPost.motion.queue = t.motion.queue := by
    rw [enterPost_motion]; split <;> rfl
  have notHeld : s.motion.phase ≠ .held := by rcases phase with h | h <;> simp [h]
  have notPost : s.motion.phase ≠ .post := by rcases phase with h | h <;> simp [h]
  by_cases held : s.motion.holds = ⟨false, false, false⟩
  · have free : ¬ (!s.motion.holds.isEmpty) = true := by simp [isEmpty_iff.mpr held]
    rw [if_neg (not_not.mpr held), State.afterPeriod, if_neg free]
    cases legs : s.motion.queue with
    | nil =>
      have none_ : ([] : List Leg) = [] ∨ s.permit.state ≠ .granted := .inl rfl
      rw [if_pos rfl, if_pos none_]
      refine ⟨SameBut_seq (latch_outside s _) (enterPost_outside _), enterPost_inPost (s.latch .queueEmpty),
        (queue _).trans legs, ?_⟩
      exact Told.trans ((latch_outside s .queueEmpty).same .masks) (latch_told s .queueEmpty)
        (enterPost_told (s.latch .queueEmpty) notPost)
    | cons l rest =>
      rw [if_neg nofun]
      by_cases permit : s.permit.state = .granted
      · rw [if_neg (not_not.mpr permit), if_neg (by simp [permit])]
        obtain ⟨started, holds, drive, outside⟩ := startFromRest_started s legs
        exact ⟨SameBut_mono outside (by decide), started, holds,
          startFromRest_told s legs (by tauto), drive⟩
      · rw [if_pos permit, if_pos (.inr permit)]
        exact ⟨enterPost_outside s, enterPost_inPost s, (queue s).trans legs, enterPost_told s notPost⟩
  · have some_ : (!s.motion.holds.isEmpty) = true := by simp [Bool.eq_false_iff, isEmpty_iff, held]
    rw [if_pos held, State.afterPeriod, if_pos some_]
    have outside := heldWithoutLeg_outside s
    refine ⟨SameBut_mono outside (by decide), ?_, ?_, heldWithoutLeg_told s notHeld, outside.same .drive⟩
    · unfold State.HeldNoLeg; rw [heldWithoutLeg_motion]
    · rw [heldWithoutLeg_motion]

end

/-- Settles O22: the ends of PRE and DWELL are one operation, the end of POST its own. -/
theorem timedPhasesEnd : Obligations.TimedPhasesEnd := by
  refine ⟨fun s live => ?_, fun s live => ⟨_, eventTaken_next live, ?_⟩⟩
  · simp only [List.forall_mem_cons, List.not_mem_nil, false_implies, implies_true, and_true]
    refine ⟨⟨_, eventTaken_next live, ?_⟩, ⟨_, eventTaken_next live, ?_⟩⟩
    · unfold State.preEnd
      split
      · next due => exact afterPeriod_cases s (.inl due.1)
      · rfl
    · unfold State.dwellEnd
      split
      · next due => exact afterPeriod_cases s (.inr due.1)
      · rfl
  · unfold State.postEnd
    split
    · next due =>
      refine ⟨finishPost_motion s, finishPost_brake s, finishPost_enable s, fun on told => ?_,
        finishPost_direction s, finishPost_told s (by simp [due.1]), finishPost_outside s⟩
      refine (rederive_rederived s.postEnded).told ?_
      rw [postEnded_seats, postEnded_drive]
      exact told.trans on.symm
    · rfl

end Sys2Proof.Machine
end

section
/-! The hold reason set (R61 to R65). -/

namespace Sys2Proof.Machine

-- One theorem at a time: each waits for the kernel, and many waiting at once are many threads.
set_option Elab.async false

/-- A command without a test of rights of its own, outside RESET: its effect starts from a state that
differs from the one before in the framing alone, and what it leaves gets no more than its slot. -/
theorem commandTaken_framed {p : Port} {f : State → State} {s : State} {Q : State → Prop}
    (h : s.inReset = false)
    (taken : ∀ u t, SameBut [.framing] s u → SameBut [.framing] (f u) t → Q t) :
    ∃ t, commandTaken p f s = .next t ∧ Q t :=
  ⟨_, commandTaken_next h, taken _ _ (onPort_framing_outside s p (·.commandFramed) (by simp) (by simp) (by simp))
    (onPort_framing_outside _ p (·.slotBegun) (by simp) (by simp) (by simp))⟩

section
variable (s : State)

/-! ## The first reason (R64) -/

theorem retreatBegun_eq (m : MotionGenerator) : m.retreatBegun =
    match m.retreat, m.current with
    | none, some c => { m with
        current := some { c with exitStep := c.exitStep.map fun _ => 0 }
        retreat := some (if c.kEff.getD c.kLeg = 0 then ⟨0, 0, true, false⟩
          else ⟨c.kEff.getD c.kLeg - 1, 0, false, false⟩) }
    | _, _ => m := by
  unfold MotionGenerator.retreatBegun
  cases m.retreat <;> cases m.current <;> rfl

theorem holdStart_begun : s.HoldBegun s.holdStart := by
  have quiet : Told [] [] s s := .of_same fun _ => rfl
  have moving (h : s.motion.phase ≠ .holding) : SameBut [.framing, .records, .motion] s
      ((s.onMotion (·.retreatBegun)).enterPhase .holding)
      ∧ Told [] [.holding] s ((s.onMotion (·.retreatBegun)).enterPhase .holding)
      ∧ ((s.onMotion (·.retreatBegun)).enterPhase .holding).motion
        = { s.motion.retreatBegun with phase := .holding } := by
    refine ⟨SameBut_seq (onMotion_outside s _) (enterPhase_outside _ _), ?_, enterPhase_motion _ _⟩
    refine enterPhase_told (s := s.onMotion (·.retreatBegun)) ?_
    rw [State.onMotion_motion, retreatBegun_same]
    exact h
  have resting (h : s.motion.phase ≠ .held) : SameBut [.framing, .records, .motion] s s.heldWithoutLeg
      ∧ Told [] [.held] s s.heldWithoutLeg ∧ s.HeldNoLeg s.heldWithoutLeg
      ∧ s.heldWithoutLeg.motion.holds = s.motion.holds
      ∧ s.heldWithoutLeg.motion.lastEnded = s.motion.lastEnded := by
    refine ⟨SameBut_mono (heldWithoutLeg_outside s) (by decide), heldWithoutLeg_told s h, ?_, ?_, ?_⟩
    · unfold State.HeldNoLeg; rw [heldWithoutLeg_motion]
    all_goals rw [heldWithoutLeg_motion]
  unfold State.HoldBegun State.holdStart
  cases phase : s.motion.phase with
  | accel | cruise | decel =>
    obtain ⟨outside, told, motion⟩ := moving (by simp [phase])
    refine ⟨outside, told, ?_⟩
    rw [motion, retreatBegun_eq]
    cases s.motion.retreat <;> cases s.motion.current <;> rfl
  | pre | dwell => exact resting (by simp [phase])
  | _ => exact ⟨SameBut_refl _ s, rfl, quiet⟩

theorem holdStart_holds : s.holdStart.motion.holds = s.motion.holds := by
  unfold State.holdStart
  split
  case h_1 | h_2 | h_3 => rw [enterPhase_motion, State.onMotion_motion, retreatBegun_same]
  case h_4 | h_5 => rw [heldWithoutLeg_motion]
  all_goals rfl

/-- The hold reason set replaced. -/
def State.setHolds (h : HoldSet) (s : State) : State := s.onMotion fun m => { m with holds := h }

theorem addHold_eq (f : HoldSet → HoldSet) : s.addHold f =
    if s.motion.holds = ⟨false, false, false⟩ ∧ f s.motion.holds ≠ ⟨false, false, false⟩ then
      (s.setHolds (f s.motion.holds)).holdStart
    else s.setHolds (f s.motion.holds) := by
  have test : (s.motion.holds.isEmpty && !(s.setHolds (f s.motion.holds)).motion.holds.isEmpty) = true
      ↔ s.motion.holds = ⟨false, false, false⟩ ∧ f s.motion.holds ≠ ⟨false, false, false⟩ := by
    simp [State.setHolds, ← Bool.not_eq_true, isEmpty_iff]
  simp only [← test]
  rfl

/-- A reason that joins the set: with one in it already, nothing else changes. -/
theorem addHold_holds (f : HoldSet → HoldSet) : (s.addHold f).motion.holds = f s.motion.holds
    ∧ (s.motion.holds ≠ ⟨false, false, false⟩ → s.addHold f = s.setHolds (f s.motion.holds)) := by
  rw [addHold_eq]
  refine ⟨?_, fun held => if_neg fun first => held first.1⟩
  split
  · rw [holdStart_holds]; rfl
  · rfl

/-! ## The last reason (R65) -/

theorem holdEnd_holds : s.holdEnd.motion.holds = s.motion.holds
    ∧ s.holdEnd.motion.sceneTimer = s.motion.sceneTimer ∧ s.holdEnd.motion.lastEnded = s.motion.lastEnded := by
  have post (t : State) : t.enterPost.motion.holds = t.motion.holds
      ∧ t.enterPost.motion.sceneTimer = t.motion.sceneTimer
      ∧ t.enterPost.motion.lastEnded = t.motion.lastEnded := by
    rw [enterPost_motion]; split <;> exact ⟨rfl, rfl, rfl⟩
  unfold State.holdEnd
  split
  · split
    · exact post s
    split
    · simp [State.resumeLeg, State.clearFractions]
    split
    · exact post (s.latch .queueEmpty)
    · unfold State.startFromRest
      split
      · exact ⟨rfl, rfl, rfl⟩
      · simp [State.clearFractions]
  · split
    · split
      · simp
      · simp [State.cancelRetreat]
    · exact ⟨rfl, rfl, rfl⟩
  · exact ⟨rfl, rfl, rfl⟩

theorem dropHold_eq (f : HoldSet → HoldSet) : s.dropHold f =
    if s.motion.holds ≠ ⟨false, false, false⟩ ∧ f s.motion.holds = ⟨false, false, false⟩ then
      (s.setHolds (f s.motion.holds)).holdEnd
    else s.setHolds (f s.motion.holds) := by
  have test : (!s.motion.holds.isEmpty && (s.setHolds (f s.motion.holds)).motion.holds.isEmpty) = true
      ↔ s.motion.holds ≠ ⟨false, false, false⟩ ∧ f s.motion.holds = ⟨false, false, false⟩ := by
    simp [State.setHolds, ← Bool.not_eq_true, isEmpty_iff]
  simp only [← test]
  rfl

/-- A reason that leaves the set: with another in it, or none in it before, nothing else changes. -/
theorem dropHold_holds (f : HoldSet → HoldSet) : (s.dropHold f).motion.holds = f s.motion.holds
    ∧ (s.dropHold f).motion.sceneTimer = s.motion.sceneTimer
    ∧ (s.motion.holds = ⟨false, false, false⟩ ∨ f s.motion.holds ≠ ⟨false, false, false⟩ →
      s.dropHold f = s.setHolds (f s.motion.holds)) := by
  obtain ⟨holds, timer, -⟩ := holdEnd_holds (s.setHolds (f s.motion.holds))
  rw [dropHold_eq]
  refine ⟨?_, ?_, fun other => if_neg fun last => other.elim last.1 (· last.2)⟩
  · split
    · rw [holds]; rfl
    · rfl
  · split
    · rw [timer]; rfl
    · rfl

end

/-! ## The commands that move the set -/

section
variable {s u t : State} {f : HoldSet → HoldSet}

/-- A reason added past the framing of its command. -/
theorem addHold_framed (hu : SameBut [.framing] s u) (ht : SameBut [.framing] (u.addHold f) t) :
    t.motion.holds = f s.motion.holds
      ∧ (s.motion.holds ≠ ⟨false, false, false⟩ →
        t.motion = { s.motion with holds := t.motion.holds } ∧ SameBut [.framing, .motion] s t) := by
  have motion : u.motion = s.motion := hu.same .motion
  have after : t.motion = (u.addHold f).motion := ht.same .motion
  obtain ⟨holds, alone⟩ := addHold_holds u f
  rw [motion] at holds alone
  refine ⟨by rw [after, holds], fun held => ?_⟩
  rw [alone held] at ht after
  refine ⟨?_, SameBut.framed hu (onMotion_outside u _) ht⟩
  rw [after, State.setHolds, State.onMotion_motion, motion]

/-- A reason dropped past the framing of its command, the SCENE timer `x` before. -/
theorem dropHold_framed {x : Option Nat}
    (hu : SameBut [.framing, .motion] s u) (motion : u.motion = { s.motion with sceneTimer := x })
    (ht : SameBut [.framing] (u.dropHold f) t) :
    t.motion.holds = f s.motion.holds ∧ t.motion.sceneTimer = x
      ∧ (s.motion.holds = ⟨false, false, false⟩ ∨ t.motion.holds ≠ ⟨false, false, false⟩ →
        t.motion = { s.motion with holds := t.motion.holds, sceneTimer := x }
          ∧ SameBut [.framing, .motion] s t) := by
  have after : t.motion = (u.dropHold f).motion := ht.same .motion
  obtain ⟨holds, timer, alone⟩ := dropHold_holds u f
  rw [motion] at holds timer alone
  refine ⟨by rw [after, holds], by rw [after, timer], fun other => ?_⟩
  rw [after, holds] at other
  rw [alone other] at ht after
  refine ⟨?_, SameBut_seq (SameBut_seq (c := [.framing, .motion]) hu (onMotion_outside u _)) ht⟩
  rw [after, State.setHolds, State.onMotion_motion, motion]

end

/-- Settles O23: each command by the reason that it adds or drops. -/
theorem holdReasons : Obligations.HoldReasons := by
  refine ⟨fun p reason s live => ⟨?_, ?_⟩, fun s live => ⟨_, eventTaken_next live, ?_⟩⟩
  · refine commandTaken_framed live fun u t hu ht => ?_
    cases p with
    | b => exact RefusedOn.framed hu (refuse_refusedOn u _ _ _) ht
    | a => simpa using addHold_framed hu ht
    | c => simpa using addHold_framed hu ht
  · refine commandTaken_framed live fun u t hu ht => ?_
    have refused {p : Port} {r : Reason} (ht : SameBut [.framing] (u.refuse p r 0x25) t) :
        RefusedOn p r 0x25 s t := RefusedOn.framed hu (refuse_refusedOn u p r _) ht
    have motion : u.motion = s.motion := hu.same .motion
    have before : SameBut [.framing, .motion] s u := SameBut_mono hu (by decide)
    change SameBut [.framing] (u.releaseHoldOp p reason) t at ht
    unfold State.releaseHoldOp at ht
    generalize reason.toNat = n at ht ⊢
    cases p with
    | b => exact refused ht
    | a =>
      rcases n with _ | _ | _ | n
      · exact dropHold_framed before motion ht
      all_goals exact refused ht
    | c =>
      rcases n with _ | _ | _ | n
      · exact refused ht
      · exact dropHold_framed before motion ht
      · have dropped : SameBut [.framing, .motion] s (u.onMotion fun m => { m with sceneTimer := none }) :=
          SameBut_seq hu (onMotion_outside u _)
        exact dropHold_framed dropped (by rw [State.onMotion_motion, motion]) ht
      · exact refused ht
  · unfold State.sceneExpiry
    split
    · obtain ⟨holds, timer, alone⟩ := dropHold_holds (s.onMotion fun m => { m with sceneTimer := none })
        fun h => { h with scene := false }
      refine ⟨timer, holds, fun other => ?_⟩
      have left : ({ s.motion.holds with scene := false } : HoldSet) ≠ ⟨false, false, false⟩ := by
        rcases other with on | on <;> simp [on]
      have same := alone (.inr left)
      rw [State.dropScene, same]
      exact ⟨rfl, SameBut_seq (onMotion_outside s _) (onMotion_outside _ _)⟩
    · rfl

end Sys2Proof.Machine
end

section
/-! What the first hold reason and the loss of the last one do (R64, R65). -/

namespace Sys2Proof.Machine

-- One theorem at a time: each waits for the kernel, and many waiting at once are many threads.
set_option Elab.async false

section
variable {s u v t : State}

theorem onMotion_framing {f : MotionGenerator → MotionGenerator} (h : SameBut [.framing] s u) :
    SameBut [.framing] (s.onMotion f) (u.onMotion f) := by
  intro b
  refine (h b).imp_right fun same => ?_
  cases b <;> first
    | exact same
    | exact congrArg f same

/-- A first reason's effect past the framing of its command. -/
theorem State.HoldBegun.framed (hu : SameBut [.framing] s u) (h : u.HoldBegun v) (ht : SameBut [.framing] v t) :
    s.HoldBegun t := by
  obtain ⟨outside, effect⟩ := h
  have before : u.motion = s.motion := hu.same .motion
  have after : t.motion = v.motion := ht.same .motion
  refine ⟨SameBut_seq (SameBut_seq (c := [.framing, .records, .motion]) hu outside) ht, ?_⟩
  unfold State.HeldNoLeg at effect ⊢
  simp only [before] at effect
  simp only [after]
  split at effect
  · exact ⟨Told.framed hu effect.1 ht, effect.2⟩
  · exact ⟨Told.framed hu effect.1 ht, effect.2⟩
  · exact ⟨Told.framed hu effect.1 ht, effect.2⟩
  · exact ⟨Told.framed hu effect.1 ht, effect.2⟩
  · exact ⟨Told.framed hu effect.1 ht, effect.2⟩
  · exact ⟨effect.1, Told.framed hu effect.2 ht⟩

/-- The first reason added past the framing of its command (R64). -/
theorem addHold_begun {f : HoldSet → HoldSet} (hu : SameBut [.framing] s u)
    (ht : SameBut [.framing] (u.addHold f) t) (none_ : s.motion.holds = ⟨false, false, false⟩)
    (joins : f ⟨false, false, false⟩ ≠ ⟨false, false, false⟩) :
    (s.setHolds (f ⟨false, false, false⟩)).HoldBegun t := by
  rw [addHold_eq, show u.motion = s.motion from hu.same .motion, none_, if_pos ⟨rfl, joins⟩] at ht
  exact (holdStart_begun _).framed (onMotion_framing hu) ht

theorem holdEnd_outside (s : State) : SameBut [.records, .motion, .drive, .seats, .model] s s.holdEnd := by
  have entered (t : State) (f : MotionGenerator → MotionGenerator) (ph : Phase) :
      SameBut [.records, .motion, .drive, .seats, .model] t ((t.onMotion f).enterPhase ph) :=
    SameBut_seq (onMotion_outside t f) (enterPhase_outside _ ph)
  have cleared : SameBut [.records, .motion, .drive, .seats, .model] s s.clearFractions :=
    SameBut_mono (onDrive_outside s _) (by decide)
  have started : SameBut [.records, .motion, .drive, .seats, .model] s s.startFromRest := by
    unfold State.startFromRest
    split
    · exact SameBut_refl _ s
    · exact SameBut_seq cleared (entered s.clearFractions _ _)
  unfold State.holdEnd
  split
  · refine SameBut_ite (enterPost_outside s) ?_
    split
    · exact SameBut_seq cleared (entered s.clearFractions _ _)
    · exact SameBut_ite (SameBut_seq (latch_outside s _) (enterPost_outside _)) started
  · split
    · exact SameBut_ite (SameBut_mono (enterPhase_outside s _) (by decide)) (entered s _ _)
    · exact SameBut_refl _ s
  · exact SameBut_refl _ s

/-- What R65 asks of the loss of the last hold reason in HELD and HOLDING, and that it does nothing in the
other phases. -/
def State.HoldReleased (s t : State) : Prop :=
  match s.motion.phase, s.motion.current with
  | .held, cur =>
    if s.permit.state ≠ .granted then s.InPost t ∧ t.motion.queue = s.motion.queue
    else
      (match cur, s.motion.queue with
      | some c, _ =>
        t.motion.current = some { c with
            kLeg := 0, stepDistance := 0, kEff := none,
            exitStep := if c.leg.seek.isSome then some 0 else none }
        ∧ t.motion.phase = (if c.leg.top = 0 then .cruise else .accel)
        ∧ t.motion.retreat = none ∧ t.motion.queue = s.motion.queue
        ∧ t.drive = { s.drive with accumulator := 0, residual := 0 }
      | none, [] => s.InPost t ∧ t.motion.queue = []
          ∧ (∀ p, (t.ports.get p).events &&& Event.queueEmpty.flag ≠ 0)
      | none, l :: rest =>
        t.motion.current = some (l.atStart s.settings.rampCount) ∧ t.motion.queue = rest
        ∧ t.motion.phase = (if min l.top (s.settings.rampCount - 1) = 0 then .cruise else .accel)
        ∧ t.drive = { s.drive with accumulator := 0, residual := 0 })
  | .holding, some c =>
    t.drive = s.drive ∧ t.motion.queue = s.motion.queue
    ∧ if c.leg.seek.isSome ∧ c.markerTaken then
        t.motion.phase = .decel ∧ t.motion.current = some c ∧ t.motion.retreat = s.motion.retreat
      else
        t.motion.current = some { c with
            kLeg := min c.kLeg (s.motion.lastEff.getD c.kLeg),
            stepDistance := if s.motion.lastEff.getD c.kLeg < c.kLeg then 0 else c.stepDistance }
        ∧ t.motion.retreat = none
        ∧ t.motion.phase
          = (if c.leg.top ≤ min c.kLeg (s.motion.lastEff.getD c.kLeg) then .cruise else .accel)
  | _, _ => t.motion.phase = s.motion.phase ∧ t.motion.current = s.motion.current
      ∧ t.motion.queue = s.motion.queue ∧ t.drive = s.drive

theorem holdEnd_released (s : State) : s.HoldReleased s.holdEnd := by
  have kept (u : State) : u.enterPost.motion.queue = u.motion.queue := by
    rw [enterPost_motion]; split <;> rfl
  unfold State.HoldReleased State.holdEnd
  cases phase : s.motion.phase with
  | held =>
    dsimp only
    by_cases permit : s.permit.state = .granted
    · rw [if_neg (not_not.mpr permit), if_neg (not_not.mpr permit)]
      cases s.motion.current with
      | some c =>
        simp only [State.resumeLeg, runPhase_zero, enterPhase_motion, enterPhase_drive]
        exact ⟨rfl, trivial, rfl, rfl, rfl⟩
      | none =>
        cases queue : s.motion.queue with
        | nil =>
          refine ⟨enterPost_inPost (s.latch .queueEmpty), (kept _).trans queue, fun p => ?_⟩
          refine (enterPost_reaction (s.latch .queueEmpty)).latched p _ ?_
          rw [State.latch_ports, PerPort_get_map]
          exact latched_latch_same _ _
        | cons l rest =>
          obtain ⟨started, -, drive, -⟩ := startFromRest_started s queue
          unfold State.StartedFromRest at started
          rw [queue] at started
          have motion := started.1
          change s.startFromRest.motion.current = _ ∧ _
          exact ⟨congrArg (·.current) motion, congrArg (·.queue) motion, congrArg (·.phase) motion, drive⟩
    · rw [if_pos permit, if_pos permit]
      exact ⟨enterPost_inPost s, kept s⟩
  | holding =>
    cases current : s.motion.current with
    | none => exact ⟨phase, current, rfl, rfl⟩
    | some c =>
      have seeks : c.seekTaken = true ↔ c.leg.seek.isSome ∧ c.markerTaken := Bool.and_eq_true_iff
      dsimp only
      by_cases taken : c.seekTaken = true
      · rw [if_pos taken, if_pos (seeks.mp taken), enterPhase_motion, enterPhase_drive]
        exact ⟨rfl, rfl, rfl, current, rfl⟩
      · rw [if_neg taken, if_neg (mt seeks.mpr taken)]
        have lower : (min c.kLeg (s.motion.lastEff.getD c.kLeg) < c.kLeg)
            = (s.motion.lastEff.getD c.kLeg < c.kLeg) := by simp
        simp only [State.cancelRetreat, enterPhase_motion, enterPhase_drive, lower]
        exact ⟨rfl, rfl, rfl, rfl, rfl⟩
  | _ => exact ⟨phase, rfl, rfl, rfl⟩

/-- The loss of the last reason read past the framing of its command and the SCENE timer. -/
theorem State.HoldReleased.framed {x : HoldSet} {y : Option Nat}
    (hv : SameBut [.framing, .motion] s v) (motion : v.motion = { s.motion with holds := x, sceneTimer := y })
    (ht : SameBut [.framing] u t) (h : v.HoldReleased u) : s.HoldReleased t := by
  have settings : v.settings = s.settings := hv.same .settings
  have drive : v.drive = s.drive := hv.same .drive
  have permit : v.permit = s.permit := hv.same .permit
  have phase : v.motion.phase = s.motion.phase := by rw [motion]
  have current : v.motion.current = s.motion.current := by rw [motion]
  have queue : v.motion.queue = s.motion.queue := by rw [motion]
  have retreat : v.motion.retreat = s.motion.retreat := by rw [motion]
  have lastEff : v.motion.lastEff = s.motion.lastEff := by rw [motion]
  have latch : v.motion.servoLatch = s.motion.servoLatch := by rw [motion]
  have flags (p : Port) : (t.ports.get p).events = (u.ports.get p).events := by
    have same := ht.same .records (by decide) p
    simp only [PortState.record, Prod.mk.injEq] at same
    exact same.1
  unfold State.HoldReleased State.InPost at h ⊢
  simp only [flags]
  rwa [settings, drive, permit, phase, current, queue, retreat, lastEff, latch,
    ← show t.motion = _ from ht.same .motion, ← show t.drive = _ from ht.same .drive] at h

end

/-- The last reason dropped past the framing of its command, the SCENE timer `y` before (R65). -/
theorem dropHold_released {f : HoldSet → HoldSet} {y : Option Nat} {s u t : State}
    (hu : SameBut [.framing, .motion] s u) (motion : u.motion = { s.motion with sceneTimer := y })
    (ht : SameBut [.framing] (u.dropHold f) t) (held : s.motion.holds ≠ ⟨false, false, false⟩)
    (last : f s.motion.holds = ⟨false, false, false⟩) :
    t.motion.holds = ⟨false, false, false⟩ ∧ t.motion.lastEnded = s.motion.lastEnded
      ∧ t.motion.sceneTimer = y
      ∧ SameBut [.framing, .records, .motion, .drive, .seats, .model] s t ∧ s.HoldReleased t := by
  have same : u.motion.holds = s.motion.holds := by rw [motion]
  have before : SameBut [.framing, .motion] s (u.setHolds ⟨false, false, false⟩) :=
    SameBut_mono (a := [.framing, .motion, .motion]) (SameBut_seq hu (onMotion_outside u _)) (by decide)
  rw [dropHold_eq, same, last, if_pos ⟨held, rfl⟩] at ht
  obtain ⟨holds, timer, ended⟩ := holdEnd_holds (u.setHolds ⟨false, false, false⟩)
  have after : t.motion = (u.setHolds ⟨false, false, false⟩).holdEnd.motion := ht.same .motion
  rw [after, holds, timer, ended]
  refine ⟨rfl, congrArg (·.lastEnded) motion, congrArg (·.sceneTimer) motion,
    SameBut_mono (SameBut_trans (SameBut_trans before (holdEnd_outside _)) ht) (by decide),
    (holdEnd_released _).framed before (x := ⟨false, false, false⟩) (y := y) ?_ ht⟩
  rw [State.setHolds, State.onMotion_motion, motion]

/-- Settles O24: the rows of each half by the reason that they add or drop. -/
theorem holdsBeginAndEnd : Obligations.HoldsBeginAndEnd := by
  refine ⟨fun p s live notB none_ => commandTaken_framed live fun u t hu ht => ?_, fun s live => ?_⟩
  · cases p with
    | b => exact absurd rfl notB
    | a => exact addHold_begun hu ht none_ nofun
    | c => exact addHold_begun hu ht none_ nofun
  · simp only [List.forall_mem_cons, List.not_mem_nil, false_implies, implies_true, and_true]
    refine ⟨fun held _ => ?_, fun held _ => ?_, fun held _ => ?_, fun held due => ?_⟩
    · refine commandTaken_framed live fun u t hu ht => ?_
      obtain ⟨holds, ended, -, outside, released⟩ := dropHold_released (y := s.motion.sceneTimer)
        (SameBut_mono hu (by decide)) (hu.same .motion) ht (by simp [held]) (by simp [held])
      exact ⟨holds, ended, nofun, outside, released⟩
    · refine commandTaken_framed live fun u t hu ht => ?_
      obtain ⟨holds, ended, -, outside, released⟩ := dropHold_released (y := s.motion.sceneTimer)
        (SameBut_mono hu (by decide)) (hu.same .motion) ht (by simp [held]) (by simp [held])
      exact ⟨holds, ended, nofun, outside, released⟩
    · refine commandTaken_framed live fun u t hu ht => ?_
      obtain ⟨holds, ended, timer, outside, released⟩ := dropHold_released (y := none)
        (SameBut_seq hu (onMotion_outside u fun m => { m with sceneTimer := none }))
        (by rw [State.onMotion_motion, show u.motion = s.motion from hu.same .motion]) ht (by simp [held]) (by simp [held])
      exact ⟨holds, ended, fun _ => timer, outside, released⟩
    · refine ⟨_, eventTaken_next (f := State.sceneExpiry) live, ?_⟩
      unfold State.sceneExpiry
      rw [if_pos (due trivial)]
      obtain ⟨holds, ended, timer, outside, released⟩ := dropHold_released (y := none)
        (SameBut_mono (onMotion_outside s fun m => { m with sceneTimer := none }) (by decide)) rfl
        (SameBut_refl _ (s.dropScene)) (by simp [held]) (by simp [held])
      exact ⟨holds, ended, fun _ => timer, outside, released⟩

end Sys2Proof.Machine
end

section
/-! Voices: their ends and starts, and the commands and rows that make them (R171 to R177, R183). -/

namespace Sys2Proof.Machine

-- One theorem at a time: each waits for the kernel, and many waiting at once are many threads.
set_option Elab.async false

/-! ## Ends and starts past the framing of a command -/

/-- The voices rest on the Sound Unit's block alone. -/
theorem voice_of_sound {s t : State} (h : t.sound = s.sound) (v : Fin 6) : t.voice v = s.voice v :=
  congrArg (·.voice[v]'v.isLt) h

theorem ended_eq (why : EndReason) (x : Voice) : x.ended why = x.atEnd why := by
  unfold Voice.ended Voice.atEnd
  cases x.clip <;> rfl

theorem endVoice_ends (s : State) (v : Fin 6) (why : EndReason) : s.VoiceEnds v why (s.endVoice v why) :=
  ⟨ended_eq why _ ▸ endVoice_becomes s v why, latch_told ((s.setVoice v _).abandonRefill v) .voiceEnd⟩

theorem setVoice_becomes (s : State) (v : Fin 6) (x : Voice) : s.VoiceBecomes v x false (s.setVoice v x) := rfl

/-- A voice's record replaced once more. -/
theorem State.VoiceBecomes.again {s t : State} {v : Fin 6} {x : Voice} {freed : Bool}
    (h : s.VoiceBecomes v x freed t) (y : Voice) : s.VoiceBecomes v y freed (t.setVoice v y) := by
  unfold State.VoiceBecomes at h ⊢
  rw [State.setVoice_sound, h]
  simp only [Vector.set_set]

/-- A taken Play (R173). -/
theorem startVoice_becomes (s : State) (v : Fin 6) (a : PlaySpec) {idle : Bool}
    (state : idle = decide ((s.voice v).state = .idle)) :
    s.VoiceBecomes v ((if idle then s.voice v else (s.voice v).atEnd .cut).started s.sound.heldSeen a)
        (!idle && s.sound.flash.any (·.owner = .voice v)) (s.startVoice v a)
      ∧ Told (if idle then [] else [.voiceEnd]) [] s (s.startVoice v a) := by
  unfold State.startVoice
  by_cases rest : (s.voice v).state = .idle
  · rw [decide_eq_true rest] at state
    rw [if_pos rest, state]
    exact ⟨setVoice_becomes s v _, .of_same fun _ => rfl⟩
  · rw [decide_eq_false rest] at state
    obtain ⟨sound, told⟩ := endVoice_ends s v .cut
    rw [if_neg rest, state]
    refine ⟨?_, told⟩
    have held : (s.endVoice v .cut).sound.heldSeen = s.sound.heldSeen := congrArg (·.heldSeen) sound
    have started := sound.again ((s.voice v).atEnd .cut |>.started s.sound.heldSeen a)
    rw [← ended_eq, ← endVoice_voice, ← held] at started
    rw [← ended_eq, ← endVoice_voice, ← held]
    exact started

section
variable {s u w t : State} {v : Fin 6}

theorem State.VoiceBecomes.framed {x : Voice} {freed : Bool} (hu : SameBut [.framing] s u)
    (h : u.VoiceBecomes v x freed w) (ht : SameBut [.framing] w t) : s.VoiceBecomes v x freed t := by
  unfold State.VoiceBecomes at h ⊢
  rw [show t.sound = _ from ht.same .sound, h, show u.sound = _ from hu.same .sound]

theorem State.VoiceEnds.framed {why : EndReason} (hu : SameBut [.framing] s u)
    (h : u.VoiceEnds v why w) (ht : SameBut [.framing] w t) : s.VoiceEnds v why t := by
  obtain ⟨sound, told⟩ := h
  have same : u.sound = s.sound := hu.same .sound
  unfold State.voice at sound
  rw [same] at sound
  exact ⟨State.VoiceBecomes.framed hu sound ht, Told.framed hu told ht⟩

end

/-! ## The bytes that name a voice or a zone -/

theorem mem_voicePorts {p : Port} {voice : Byte} : (p ≠ .c ∧ voice ≠ 5) ↔ p ∉ voicePorts voice := by
  have five : voice = 5 ↔ voice.toNat = 5 := BitVec.toNat_inj.symm
  unfold voicePorts
  rw [Ne, Ne, five]
  split <;> cases p <;> simp [*]

theorem finOf_none {n : Nat} {b : Byte} (big : n ≤ b.toNat) : finOf n b = none :=
  dif_neg (Nat.not_lt.mpr big)

theorem finOf_some {n : Nat} {b : Byte} {v : Fin n} (small : b.toNat < n) (named : v.val = b.toNat % n) :
    finOf n b = some v :=
  (dif_pos small).trans (congrArg some (Fin.ext (by rw [named, Nat.mod_eq_of_lt small])))

theorem byte_zero (b : Byte) : b.toNat = 0 ↔ b = 0 := BitVec.toNat_inj (y := 0)

/-! ## Stop Voice, Set Voice Gain, Set Zone Level -/

/-- Settles O48: each command's judgement in each state of its voice. -/
theorem voiceAndZoneCommands : Obligations.VoiceAndZoneCommands := by
  refine ⟨fun p voice a step s live v named x hx => ⟨?_, ?_⟩, fun p zone a step s live => ?_⟩
  · refine judgedCommand_next live (fun u t hu refused accepted => ?_) mem_voicePorts
    have same : u.voice v = x := hx ▸ voice_of_sound (hu.same .sound) v
    unfold State.stopJudged at refused accepted
    split
    · next big => exact refused _ (by rw [finOf_none big])
    next small =>
    rw [finOf_some (Nat.lt_succ_of_le (Nat.not_lt.mp small)) named] at accepted
    simp only [same, byte_zero] at accepted
    have ends (taken : SameBut [.framing] (u.endVoice v .stop) t) :
        s.VoiceEnds v .stop t ∧ SameBut [.framing, .records, .sound] s t :=
      ⟨(endVoice_ends u v _).framed hu taken, SameBut.framed hu (endVoice_outside u v _) taken⟩
    have becomes {y : Voice} (taken : SameBut [.framing] (u.setVoice v y) t) :
        s.VoiceBecomes v y false t ∧ SameBut [.framing, .sound] s t :=
      ⟨(setVoice_becomes u v y).framed hu taken, SameBut.framed hu (setVoice_outside u v y) taken⟩
    cases state : x.state with
    | idle =>
      rw [state] at accepted
      exact SameBut_mono (SameBut_trans hu (accepted _ rfl)) (by decide)
    | paused =>
      rw [state] at accepted
      rw [if_neg nofun, if_pos (.inr rfl)]
      exact ends (accepted _ rfl)
    | playing | fadingOut =>
      rw [state] at accepted
      have taken := accepted _ rfl
      rw [if_neg nofun]
      by_cases zero : step = 0
      · rw [if_pos zero] at taken
        rw [if_pos (.inl zero)]
        exact ends taken
      · rw [if_neg zero] at taken
        rw [if_neg fun h => h.elim zero nofun]
        exact becomes taken
  · refine judgedCommand_next live (fun u t hu refused accepted => ?_) mem_voicePorts
    have same : u.voice v = x := hx ▸ voice_of_sound (hu.same .sound) v
    unfold State.gainJudged at refused accepted
    split
    · next big => exact refused _ (by rw [finOf_none big])
    next small =>
    rw [finOf_some (Nat.lt_succ_of_le (Nat.not_lt.mp small)) named] at refused accepted
    simp only [same, byte_zero] at refused accepted
    cases state : x.state with
    | idle | fadingOut =>
      rw [state] at refused
      exact refused _ rfl
    | playing | paused =>
      rw [state] at accepted
      exact ⟨(setVoice_becomes u v _).framed hu (accepted _ rfl),
        SameBut.framed hu (setVoice_outside u v _) (accepted _ rfl)⟩
  · refine judgedCommand_next live fun u t hu refused accepted => ?_
    have sound : u.sound = s.sound := hu.same .sound
    unfold State.zoneJudged at refused accepted
    split
    · next small =>
      rw [finOf_some (v := ⟨zone.toNat, small⟩) small (Nat.mod_eq_of_lt small).symm] at accepted
      have taken := accepted _ rfl
      refine ⟨?_, SameBut.framed hu (onSound_outside u _) taken⟩
      rw [show t.sound = _ from taken.same .sound, State.onSound_sound, sound]
      simp only [byte_zero]
      split <;> rfl
    · next big => exact refused _ (by rw [finOf_none (Nat.not_lt.mp big)])

/-! ## Play -/

theorem byte_one {b : Byte} (small : b.toNat ≤ 1) : b = 1 ↔ b ≠ 0 := by
  have one : b = 1 ↔ b.toNat = 1 := BitVec.toNat_inj.symm
  rw [one, Ne, ← byte_zero]
  omega

/-- A voice as a taken play starts it (R172, R173). -/
theorem started_eq (held : Bool) (v : Fin 6) (a : PlayBytes) (x : Voice) (small : a.hold.toNat ≤ 1) :
    x.started held (playSpecOf v a (if a.hold = 0 then .playOn else .pauseOnHold)) =
      { x.atStart a.clip.toNat (if a.plays = 0 then 1 else a.plays.toNat) a.gain.toNat a.fadeIn.toNat with
        state := if v ≠ 5 ∧ a.hold = 1 ∧ held then .paused else .playing
        zones := BitVec.ofNat 4 a.zones.toNat
        hold := if v ≠ 5 ∧ a.hold = 1 then .pauseOnHold else .playOn } := by
  have plays : max 1 a.plays.toNat = if a.plays = 0 then 1 else a.plays.toNat := by
    simp only [← byte_zero]
    split <;> omega
  have announce : (v = announcer) = (v = 5) := rfl
  unfold Voice.started playSpecOf Voice.atStart
  simp only [plays, announce, byte_one small, ← BitVec.ofNat_toNat]
  by_cases last : v = 5
  · simp [last]
  · by_cases zero : a.hold = 0 <;> simp [last, zero]

/-- Settles O47: the tests of R172 as the judgement makes them, then the start of the voice. -/
theorem play : Obligations.Play := by
  intro p a s live
  refine judgedCommand_next live (fun u t hu refused accepted => ?_) mem_voicePorts
  have sound : u.sound = s.sound := hu.same .sound
  unfold State.playJudged holdBehaviourOf yesNoOf at refused accepted
  simp only [nth_two, sound] at refused accepted
  by_cases bytes : a.voice.toNat < 6 ∧ a.zones.toNat ≤ 15 ∧ a.hold.toNat ≤ 1 ∧ a.cut.toNat ≤ 1
  · obtain ⟨voice, zones, hold, cut⟩ := bytes
    have same : u.voice ⟨_, voice⟩ = s.voice ⟨_, voice⟩ := voice_of_sound sound _
    rw [dif_pos ⟨voice, zones, hold, cut⟩]
    simp only [finOf_some (v := ⟨a.voice.toNat, voice⟩) voice (Nat.mod_eq_of_lt voice).symm,
      if_neg (Nat.not_lt.mpr hold), if_neg (Nat.not_lt.mpr cut), if_neg (Nat.not_lt.mpr zones), same]
      at refused accepted
    generalize (⟨a.voice.toNat, voice⟩ : Fin 6) = v at refused accepted same ⊢
    split
    · next mounting => exact refused _ (if_pos mounting)
    next free =>
    simp only [if_neg free] at refused accepted
    have known : (s.sound.clipOf a.clip.toNat).isNone = true ↔ ∀ c ∈ s.sound.clips, c.id ≠ a.clip.toNat := by
      simp [SoundUnit.clipOf]
    split
    · next unknown => exact refused _ (if_pos (known.mpr unknown))
    next clip =>
    simp only [if_neg (mt known.mp clip)] at refused accepted
    have busy : ((s.voice v).state ≠ .idle ∧ (if a.cut = 0 then false else true) = false)
        ↔ (decide ((s.voice v).state = .idle) = false ∧ a.cut = 0) := by simp
    dsimp only
    split
    · next taken => exact refused _ (if_pos (busy.mpr taken))
    next granted =>
    have taken := accepted _ (if_neg (mt busy.mp granted))
    obtain ⟨becomes, told⟩ := startVoice_becomes u v (playSpecOf v a (if a.hold = 0 then .playOn else .pauseOnHold)) rfl
    rw [started_eq _ _ _ _ hold, same, sound] at becomes
    rw [same] at told
    exact ⟨becomes.framed hu taken, told.framed hu taken, SameBut.framed hu (startVoice_outside u v _) taken⟩
  · rw [dif_neg bytes]
    refine refused _ ?_
    by_cases voice : a.voice.toNat < 6
    · rw [finOf_some (v := ⟨a.voice.toNat, voice⟩) voice (Nat.mod_eq_of_lt voice).symm]
      by_cases hold : 1 < a.hold.toNat
      · rw [if_pos hold]
      by_cases cut : 1 < a.cut.toNat
      · rw [if_neg hold, if_pos cut]
      rw [if_neg hold, if_neg cut]
      exact if_pos (by omega)
    · rw [finOf_none (Nat.not_lt.mp voice)]

/-! ## The end of a pass and of a fade -/

theorem clipPassEnd_due {s : State} {v : Fin 6} {c : Clip} {n : Nat} (clip : s.clipOn v = some c)
    (due : (s.voice v).state ≠ .idle ∧ (s.voice v).cursor = c.length) (plays : (s.voice v).plays = some n) :
    s.clipPassEnd v =
      if 1 < n then s.setVoice v { s.voice v with
        cursor := c.loopStart, plays := some (if n = 255 then 255 else n - 1) }
      else s.endVoice v .finished := by
  unfold State.clipPassEnd
  simp only [clip, if_pos due, plays, Option.getD_some]

/-- Settles O52: a pass that ends goes on or ends its voice; a fade ends it. -/
theorem voicePassesAndFadesEnd : Obligations.VoicePassesAndFadesEnd := by
  rintro v s live x rfl
  refine ⟨⟨_, eventTaken_next live, ?_⟩, ⟨_, eventTaken_next live, ?_⟩⟩
  · split
    · next due =>
      intro n plays c clip
      have hit : (s.voice v).state ≠ .idle ∧ (s.voice v).cursor = c.length := by
        rw [clip] at due
        exact ⟨due.1, (of_decide_eq_true due.2).symm⟩
      rw [clipPassEnd_due clip hit plays]
      split
      · exact ⟨setVoice_becomes s v _, setVoice_outside s v _⟩
      · exact ⟨endVoice_ends s v _, endVoice_outside s v _⟩
    · next idle =>
      unfold State.clipPassEnd
      cases clip : s.clipOn v with
      | none => rfl
      | some c =>
        rw [clip] at idle
        exact if_neg fun due => idle ⟨due.1, decide_eq_true due.2.symm⟩
  · unfold State.fadeEnd
    dsimp only
    split
    · exact ⟨endVoice_ends s v _, endVoice_outside s v _⟩
    · rfl

end Sys2Proof.Machine
end

section
/-! The SHOW section reset (R79, R153, R166, R190). -/

namespace Sys2Proof.Machine

-- One theorem at a time: each waits for the kernel, and many waiting at once are many threads.
set_option Elab.async false

/-- A vector changed member by member over a list of its indexes. -/
def changedOver {α : Type} {n : Nat} (f : α → α) (l : List (Fin n)) (v : Vector α n) : Vector α n :=
  l.foldl (fun w (i : Fin n) => w.set i (f (w[i]'i.isLt))) v

theorem get_changedOver {α : Type} {n : Nat} (f : α → α) {l : List (Fin n)} (once : l.Nodup)
    (every : ∀ i, i ∈ l) (v : Vector α n) (i : Fin n) : (changedOver f l v)[i]'i.isLt = f (v[i]'i.isLt) :=
  (get_foldl_set f l once v i).trans (if_pos (every i))

/-- A channel as a SHOW section reset leaves it (R166). -/
def Channel.cleared (x : Channel) : Channel := { x.stopped .off with armed := none }

/-- The channels of a list changed, one after the other. -/
theorem foldl_setChannel_effects (f : Channel → Channel) (l : List (Fin 12)) (s : State) :
    (l.foldl (fun s (c : Fin 12) => s.setChannel c (f (s.channel c))) s).effects = { s.effects with
      channel := changedOver f l s.effects.channel } := by
  induction l generalizing s with
  | nil => rfl
  | cons c l ih => rw [List.foldl_cons, ih]; rfl

theorem effectReset_effects (s : State) : s.effectReset.effects = { s.effects with
    channel := changedOver Channel.cleared allChannels s.effects.channel
    conflicts := Vector.replicate 6 0 } := by
  have cleared := foldl_setChannel_effects Channel.cleared allChannels s
  exact congrArg (fun e : EffectBank => { e with conflicts := Vector.replicate 6 0 }) cleared

theorem effectReset_outside (s : State) : SameBut [.effects] s s.effectReset :=
  SameBut_seq (SameBut_foldl (fun t c => setChannel_outside t c _) allChannels s) (onEffects_outside _ _)

/-- The voices of a list silenced, one after the other, with a refill of one of them abandoned (R190). -/
theorem foldl_silence_sound (l : List (Fin 6)) (s : State) :
    (l.foldl (fun s v => (s.setVoice v (s.voice v).silenced).abandonRefill v) s).sound = { s.sound with
      voice := changedOver Voice.silenced l s.sound.voice
      flash := if s.sound.flash.any (fun r => l.any (r.owner = .voice ·)) then none else s.sound.flash } := by
  induction l generalizing s with
  | nil =>
    have free : s.sound.flash.any (fun r => ([] : List (Fin 6)).any (r.owner = .voice ·)) = false := by
      cases s.sound.flash <;> rfl
    rw [free]
    rfl
  | cons v l ih =>
    rw [List.foldl_cons, ih, setVoice_abandonRefill_becomes s v]
    cases flash : s.sound.flash with
    | none => rfl
    | some r =>
      by_cases served : r.owner = .voice v
      · simp [served]; rfl
      · simp [served]; rfl

theorem soundReset_sound (s : State) : s.soundReset.sound = { s.sound with
    voice := changedOver Voice.silenced allVoices s.sound.voice
    flash := if s.sound.flash.any (fun r => allVoices.any (r.owner = .voice ·)) then none else s.sound.flash
    duck := 255, zone := Vector.replicate 4 ⟨128, 128, 0⟩ } := by
  have silenced := foldl_silence_sound allVoices s
  exact congrArg (fun u : SoundUnit => { u with duck := 255, zone := Vector.replicate 4 ⟨128, 128, 0⟩ }) silenced

theorem soundReset_outside (s : State) : SameBut [.sound] s s.soundReset := by
  have silenced : SameBut [.sound] s
      (allVoices.foldl (fun t v => (t.setVoice v (t.voice v).silenced).abandonRefill v) s) :=
    SameBut_foldl (fun t v => SameBut_mono (SameBut_trans (setVoice_outside t v _) (abandonRefill_outside _ v))
      (by decide)) allVoices s
  unfold State.soundReset
  exact SameBut_seq silenced (onSound_outside _ _)

/-! ## The reset of the three blocks -/

section
variable (s : State)

theorem cueReset_cues : s.cueReset.cues = { s.cues with engine := .disarmed, slots := s.clearFired.cues.slots } := by
  simp [State.cueReset, State.setEngine, State.clearFired]

theorem cueReset_outside : SameBut [.cues] s s.cueReset := by
  unfold State.cueReset State.setEngine State.clearFired
  exact SameBut_seq (onCues_outside s _) (onCues_outside _ _)

theorem showReset_cues : s.showReset.cues = s.cueReset.cues := by
  have effects : s.cueReset.effectReset.cues = s.cueReset.cues := (effectReset_outside s.cueReset).same .cues
  have sound : s.showReset.cues = s.cueReset.effectReset.cues :=
    (soundReset_outside s.cueReset.effectReset).same .cues
  exact sound.trans effects

theorem showReset_effects : s.showReset.effects = { s.effects with
    channel := changedOver Channel.cleared allChannels s.effects.channel
    conflicts := Vector.replicate 6 0 } := by
  have same : s.showReset.effects = s.cueReset.effectReset.effects :=
    (soundReset_outside s.cueReset.effectReset).same .effects
  rw [same, effectReset_effects, show s.cueReset.effects = s.effects from (cueReset_outside s).same .effects]

theorem showReset_sound : s.showReset.sound = s.soundReset.sound := by
  have same : s.cueReset.effectReset.sound = s.sound :=
    ((effectReset_outside s.cueReset).same .sound).trans ((cueReset_outside s).same .sound)
  rw [State.showReset, soundReset_sound, soundReset_sound, same]

theorem showReset_outside : SameBut [.cues, .effects, .sound] s s.showReset :=
  have effects : SameBut [.cues, .effects] s s.cueReset.effectReset :=
    SameBut_seq (cueReset_outside s) (effectReset_outside s.cueReset)
  SameBut_seq effects (soundReset_outside s.cueReset.effectReset)

end

/-- Settles O46: the cues, the bank and the Sound Unit one after the other. -/
theorem showSectionReset : Obligations.ShowSectionReset := by
  intro p s live
  refine allowedCommand_next live (fun _ u t hu ht => ?_) (by cases p <;> simp)
  have cues : t.cues = u.showReset.cues := ht.same .cues
  have effects : t.effects = u.showReset.effects := ht.same .effects
  have sound : t.sound = u.showReset.sound := ht.same .sound
  rw [showReset_cues, cueReset_cues, show u.cues = s.cues from hu.same .cues] at cues
  rw [showReset_effects, show u.effects = s.effects from hu.same .effects] at effects
  rw [showReset_sound, soundReset_sound, show u.sound = s.sound from hu.same .sound] at sound
  refine ⟨?_, fun i => ?_, ?_, fun i => ?_, ?_, fun v => ?_, fun r flash => ?_,
    SameBut.framed hu (showReset_outside u) ht⟩
  · rw [cues]
  · have fired := slot_clearFired u i
    unfold State.slot at fired ⊢
    rw [cues]
    exact fired.trans (by rw [show u.cues = s.cues from hu.same .cues])
  · rw [effects]
  · rw [State.channel, effects]
    exact get_changedOver _ (by decide) (by decide) _ i
  · rw [sound]
  · rw [State.voice, sound]
    exact get_changedOver _ (by decide) (by decide) _ v
  · rw [sound, flash]
    cases owner : r.owner with
    | mount => simp [owner]
    | voice v =>
      have served : allVoices.any (r.owner = .voice ·) = true := by
        rw [List.any_eq_true]
        exact ⟨v, (by decide : ∀ v, v ∈ allVoices) v, decide_eq_true owner⟩
      exact if_pos served

end Sys2Proof.Machine
end

section
/-! Channels: Set Effect, and the ends of intervals (R155 to R159). -/

namespace Sys2Proof.Machine

-- One theorem at a time: each waits for the kernel, and many waiting at once are many threads.
set_option Elab.async false

/-! ## The operation OFF and a start -/

/-- The channels rest on the effects' block alone. -/
theorem channel_of_effects {s t : State} (h : t.effects = s.effects) (i : Fin 12) : t.channel i = s.channel i :=
  congrArg (·.channel[i]'i.isLt) h

theorem effectOff_becomes (s : State) (i : Fin 12) :
    if (s.channel i).state.active then s.ChannelBecomes i (s.channel i).turnedOff (s.effectOff i)
    else (s.effectOff i).effects = s.effects := by
  unfold State.effectOff
  split
  · rfl
  · rfl

theorem effectOff_channel (s : State) (i j : Fin 12) : (s.effectOff i).channel j =
    if j = i ∧ (s.channel j).state.active then (s.channel j).turnedOff else s.channel j := by
  unfold State.effectOff
  by_cases same : j = i
  · subst same
    by_cases active : (s.channel j).state.active
    · rw [if_pos active, if_pos ⟨rfl, active⟩, State.channel_setChannel, if_pos rfl]
      rfl
    · rw [if_neg active, if_neg (not_and_of_not_right _ active)]
  · rw [if_neg (not_and_of_not_left _ same)]
    split
    · rw [State.channel_setChannel, if_neg (Ne.symm same)]
    · rfl

/-- Two channels of one pair are one channel or partners. -/
theorem pairOf_eq_iff {i j : Fin 12} (other : j ≠ i) : pairOf j = pairOf i ↔ j = partnerOf i := by
  revert i j
  decide

/-- A start (R158): the channel begins the pattern, and an active exclusive partner is turned off. -/
theorem startPattern_starts (s : State) (i : Fin 12) (pat : Pattern) :
    (s.startPattern i pat).effects = { s.effects with channel := (s.startPattern i pat).effects.channel }
      ∧ (s.startPattern i pat).channel i = (s.channel i).begun pat
      ∧ ∀ j : Fin 12, j ≠ i → (s.startPattern i pat).channel j =
        if s.exclusive (pairOf i) = true ∧ pairOf j = pairOf i ∧ (s.channel j).state.active = true then
          (s.channel j).turnedOff
        else s.channel j := by
  have off : (s.effectOff (partnerOf i)).effects
      = { s.effects with channel := (s.effectOff (partnerOf i)).effects.channel } := by
    unfold State.effectOff
    split <;> rfl
  have same : (s.effectOff (partnerOf i)).channel i = s.channel i := by
    rw [effectOff_channel, if_neg fun h => partnerOf_ne i h.1.symm]
  unfold State.startPattern
  refine ⟨?_, ?_, fun j other => ?_⟩
  · rw [State.setChannel_effects]
    split
    · rw [off]
    · rfl
  · rw [State.channel_setChannel, if_pos rfl]
    split
    · rw [same]
    · rfl
  · simp only [State.channel_setChannel, if_neg (Ne.symm other), pairOf_eq_iff other]
    by_cases exclusive : s.exclusive (pairOf i) = true
    · simp only [exclusive, if_true, true_and]
      exact effectOff_channel s _ j
    · rw [if_neg exclusive, if_neg fun on => exclusive on.1]

/-! ## Set Effect -/

section
variable {s u w t : State} {i : Fin 12}

theorem State.ChannelBecomes.framed {x : Channel} (hu : SameBut [.framing] s u)
    (h : u.ChannelBecomes i x w) (ht : SameBut [.framing] w t) : s.ChannelBecomes i x t := by
  unfold State.ChannelBecomes at h ⊢
  rw [show t.effects = _ from ht.same .effects, h, show u.effects = _ from hu.same .effects]

/-- The operation OFF past the framing of its command. -/
theorem effectOff_framed (hu : SameBut [.framing] s u) (ht : SameBut [.framing] (u.effectOff i) t) :
    SameBut [.framing, .effects] s t
      ∧ if (s.channel i).state.active then s.ChannelBecomes i (s.channel i).turnedOff t
        else t.effects = s.effects := by
  have effects : u.effects = s.effects := hu.same .effects
  have same : u.channel i = s.channel i := channel_of_effects effects i
  have becomes := effectOff_becomes u i
  rw [same] at becomes
  refine ⟨SameBut.framed hu (effectOff_outside u i) ht, ?_⟩
  split
  · next active =>
    rw [if_pos active] at becomes
    exact becomes.framed hu ht
  · next rest =>
    rw [if_neg rest] at becomes
    rw [show t.effects = _ from ht.same .effects, becomes, effects]

end

/-- A pattern by the tests of R157. -/
theorem patternOf_eq (b : PatternBytes) : patternOf b =
    if 5 < b.mode.toNat ∨ ((b.mode = 1 ∨ b.mode = 2 ∨ b.mode = 3) ∧ b.onTime = 0)
        ∨ ((b.mode = 2 ∨ b.mode = 3) ∧ b.offTime = 0) ∨ (b.mode = 2 ∧ b.countOrDuty = 0)
        ∨ (11 < b.link.toNat ∧ b.link ≠ 255) then none
    else some
      { mode := [PatternMode.steady, .pulse, .burst, .cycle, .dim].getD b.mode.toNat .off,
        onTime := b.onTime.toNat, offTime := b.offTime.toNat, countOrDuty := b.countOrDuty.toNat,
        link := if b.link = 255 then none else some b.link.toNat } := by
  have value {n : Nat} (x y : BitVec n) : x = y ↔ x.toNat = y.toNat := BitVec.toNat_inj.symm
  unfold patternOf patternModeOf nth
  simp only [value, Ne]
  generalize b.mode.toNat = n
  rcases n with _ | _ | _ | _ | _ | _ | n <;> simp [ite_or, and_comm, -not_and]

theorem mode_off {n : Nat} (small : n ≤ 5) :
    [PatternMode.steady, .pulse, .burst, .cycle, .dim].getD n .off = .off ↔ n = 5 := by
  match n, small with
  | 0, _ | 1, _ | 2, _ | 3, _ | 4, _ | 5, _ => simp

/-- A channel entering the state of a pattern's mode (R155, R158). -/
theorem begun_eq {pat : Pattern} {mode : Byte} (x : Channel)
    (named : pat.mode = [PatternMode.steady, .pulse, .burst, .cycle, .dim].getD mode.toNat .off)
    (small : mode.toNat < 5) : x.begun pat = { x with
      state := [ChannelState.steadyOn, .pulseOn, .burstOn, .cycleOn].getD mode.toNat .dim
      running := some pat
      interval := if mode = 0 ∨ mode = 4 then none else some pat.onTime
      bursts := if mode = 2 then some pat.countOrDuty else none } := by
  have value (y : Byte) : mode = y ↔ mode.toNat = y.toNat := BitVec.toNat_inj.symm
  simp only [value]
  unfold Channel.begun
  rw [named]
  match mode.toNat, small with
  | 0, _ => rfl
  | 1, _ => rfl
  | 2, _ => rfl
  | 3, _ => rfl
  | 4, _ => rfl

/-- Settles O42: the tests of R157, then the operation. -/
theorem setEffect : Obligations.SetEffect := by
  intro p ch b s live bad hbad pat hpat i named
  have range : bad = true → finOf 12 ch = none ∨ patternOf b = none := fun h => by
    rw [hbad, decide_eq_true_iff] at h
    exact h.imp finOf_none fun wrong => by rw [patternOf_eq, if_pos wrong]
  have good : ¬ bad = true → finOf 12 ch = some i ∧ patternOf b = some pat ∧ b.mode.toNat ≤ 5 := fun h => by
    rw [hbad, decide_eq_true_iff, not_or] at h
    refine ⟨finOf_some (Nat.lt_succ_of_le (Nat.not_lt.mp h.1)) named, ?_, by omega⟩
    rw [patternOf_eq, if_neg h.2, hpat]
  refine ⟨judgedCommand_next live fun u t hu refused accepted => ?_,
    judgedCommand_next live fun u t hu refused accepted => ?_,
    judgedCommand_next live fun u t hu refused accepted => ?_⟩
  · have effects : u.effects = s.effects := hu.same .effects
    have same (j : Fin 12) : u.channel j = s.channel j := channel_of_effects effects j
    unfold State.startJudged at refused accepted
    split
    · next h =>
      refine refused _ ?_
      rcases range h with none_ | none_ <;> rw [none_]
      cases finOf 12 ch <;> rfl
    next h =>
    obtain ⟨fin, pattern, small⟩ := good h
    have off : pat.mode = .off ↔ b.mode = 5 := by
      rw [hpat, mode_off small]
      exact BitVec.toNat_inj (y := 5)
    rw [fin, pattern] at refused accepted
    simp only [off, same] at refused accepted
    split
    · next mode => exact effectOff_framed hu (accepted _ (if_pos mode))
    next mode =>
    simp only [if_neg mode] at refused accepted
    split
    · next locked => exact refused _ (if_pos locked)
    next free =>
    have taken := accepted _ (if_neg free)
    have after : t.effects = (u.startPattern i pat).effects := taken.same .effects
    have channel (j : Fin 12) : t.channel j = (u.startPattern i pat).channel j := channel_of_effects after j
    obtain ⟨bank, begun, others⟩ := startPattern_starts u i pat
    refine ⟨SameBut.framed hu (startPattern_outside u i pat) taken, ?_, fun j other => ?_, ?_⟩
    · have five : b.mode.toNat ≠ 5 := fun h => mode (BitVec.toNat_inj.mp h)
      rw [channel, begun, same, begun_eq (mode := b.mode) _ (by rw [hpat]) (by omega), hpat]
    · rw [channel, others j other]
      simp only [same]
      rw [show u.exclusive (pairOf i) = s.exclusive (pairOf i) from
        congrArg (·.exclusivePairMask.getLsbD (pairOf i)) (hu.same .settings)]
    · rw [after, bank, effects]
  · have effects : u.effects = s.effects := hu.same .effects
    unfold State.armJudged at refused accepted
    split
    · next h =>
      refine refused _ ?_
      rcases range h with none_ | none_ <;> rw [none_]
      cases finOf 12 ch <;> rfl
    next h =>
    obtain ⟨fin, pattern, small⟩ := good h
    have off : pat.mode = .off ↔ b.mode = 5 := by
      rw [hpat, mode_off small]
      exact BitVec.toNat_inj (y := 5)
    rw [fin, pattern] at accepted
    simp only [off, show u.channel i = s.channel i from channel_of_effects effects i] at accepted
    have taken := accepted _ rfl
    exact ⟨SameBut.framed hu (setChannel_outside u i _) taken,
      State.ChannelBecomes.framed (w := u.setChannel i _) hu rfl taken⟩
  · unfold State.offJudged at refused accepted
    split
    · next big => exact refused _ (by rw [finOf_none big])
    next small =>
    rw [finOf_some (Nat.lt_succ_of_le (Nat.not_lt.mp small)) named] at accepted
    exact effectOff_framed hu (accepted _ rfl)

end Sys2Proof.Machine
end

section
/-! The ends of a channel's intervals, its completion and its chain (R155, R159). -/

namespace Sys2Proof.Machine

-- One theorem at a time: each waits for the kernel, and many waiting at once are many threads.
set_option Elab.async false

/-- A channel entering the state of a pattern, by the modes' names (R155, R158). -/
theorem begun_modes (pat : Pattern) (x : Channel) : x.begun pat =
    if pat.mode = .off then x.turnedOff
    else { x with
      state := match pat.mode with
        | .steady => .steadyOn | .pulse => .pulseOn | .burst => .burstOn
        | .cycle => .cycleOn | .dim => .dim | .off => .off
      running := some pat
      interval := if pat.mode = .steady ∨ pat.mode = .dim then none else some pat.onTime
      bursts := if pat.mode = .burst then some pat.countOrDuty else none } := by
  unfold Channel.begun
  cases pat.mode <;> rfl

/-- A completion before its chain (R159). -/
def State.completed (i : Fin 12) (s : State) : State :=
  (s.setChannel i { (s.channel i).turnedOff with completions := ((s.channel i).completions + 1) % 256 }).latch
    .effectDone

theorem completed_channel (s : State) (i j : Fin 12) : (s.completed i).channel j =
    if j = i then { (s.channel i).turnedOff with completions := ((s.channel i).completions + 1) % 256 }
    else s.channel j := by
  refine (State.channel_setChannel s i j _).trans ?_
  by_cases same : i = j
  · rw [if_pos same, if_pos same.symm]
  · rw [if_neg same, if_neg (Ne.symm same)]

theorem completed_told (s : State) (i : Fin 12) : Told [.effectDone] [] s (s.completed i) :=
  latch_told (s.setChannel i _) .effectDone

theorem completed_outside (s : State) (i : Fin 12) : SameBut [.records, .effects] s (s.completed i) :=
  SameBut_seq (setChannel_outside s i _) (latch_outside _ _)

/-- A completion with its chain: the linked channel's armed pattern starts, or nothing does (R159). -/
theorem completeEffect_cases (s : State) (i : Fin 12) {pat : Pattern}
    (running : (s.channel i).running = some pat) :
    (s.completeEffect i = s.completed i
        ∧ ∀ l : Fin 12, pat.link = some l.val → ((s.completed i).channel l).armed = none
            ∨ ((s.completed i).channel l).state = .lockedOut)
      ∨ ∃ (l : Fin 12) (next : Pattern), pat.link = some l.val ∧ ((s.completed i).channel l).armed = some next
        ∧ ((s.completed i).channel l).state ≠ .lockedOut
        ∧ s.completeEffect i = (s.completed i).startPattern l next := by
  have eq : s.completeEffect i = match pat.link with
      | none => s.completed i
      | some l =>
        if h : l < 12 then
          match ((s.completed i).channel ⟨l, h⟩).armed with
          | some next => if ((s.completed i).channel ⟨l, h⟩).state = .lockedOut then s.completed i
            else (s.completed i).startPattern ⟨l, h⟩ next
          | none => s.completed i
        else s.completed i := by
    unfold State.completeEffect
    simp only [running, Option.bind_some]
    rfl
  cases link : pat.link with
  | none =>
    rw [link] at eq
    exact .inl ⟨eq, nofun⟩
  | some l =>
    rw [link] at eq
    dsimp only at eq
    by_cases h : l < 12
    · rw [dif_pos h] at eq
      have only {k : Fin 12} (same : some l = some k.val) : k = ⟨l, h⟩ := Fin.ext (Option.some.inj same).symm
      cases armed : ((s.completed i).channel ⟨l, h⟩).armed with
      | none =>
        rw [armed] at eq
        exact .inl ⟨eq, fun k same => .inl (only same ▸ armed)⟩
      | some next =>
        rw [armed] at eq
        dsimp only at eq
        split at eq
        · next locked => exact .inl ⟨eq, fun k same => .inr (only same ▸ locked)⟩
        · next free => exact .inr ⟨⟨l, h⟩, next, rfl, armed, free, eq⟩
    · rw [dif_neg h] at eq
      exact .inl ⟨eq, fun k same => absurd (Option.some.inj same ▸ k.isLt) h⟩

/-- What R159 asks of the completion of pattern `pat` on channel `i`. -/
def State.EffectCompletes (i : Fin 12) (pat : Pattern) (s t : State) : Prop :=
  Told [.effectDone] [] s t ∧ SameBut [.records, .effects] s t
    ∧ t.effects = { s.effects with channel := t.effects.channel }
    ∧ ∀ z : Fin 12 → Channel,
      z = (fun j => if j = i then { (s.channel i).turnedOff with
          completions := ((s.channel i).completions + 1) % 256 } else s.channel j) →
      ((∀ l : Fin 12, pat.link = some l.val → (z l).armed = none ∨ (z l).state = .lockedOut) →
        ∀ j, t.channel j = z j)
      ∧ ∀ l : Fin 12, pat.link = some l.val → ∀ next, (z l).armed = some next →
        (z l).state ≠ .lockedOut →
        t.channel l = (if next.mode = .off then (z l).turnedOff
          else { z l with
            state := match next.mode with
              | .steady => .steadyOn | .pulse => .pulseOn | .burst => .burstOn
              | .cycle => .cycleOn | .dim => .dim | .off => .off,
            running := some next,
            interval := if next.mode = .steady ∨ next.mode = .dim then none else some next.onTime,
            bursts := if next.mode = .burst then some next.countOrDuty else none })
        ∧ ∀ j, j ≠ l → t.channel j =
          if s.exclusive (pairOf l) = true ∧ pairOf j = pairOf l ∧ (z j).state.active = true then
            (z j).turnedOff
          else z j

theorem completeEffect_completes (s : State) (i : Fin 12) {pat : Pattern}
    (running : (s.channel i).running = some pat) : s.EffectCompletes i pat (s.completeEffect i) := by
  have told := completed_told s i
  have outside := completed_outside s i
  rcases completeEffect_cases s i running with ⟨eq, free⟩ | ⟨l, next, link, armed, free, eq⟩
  · rw [eq]
    refine ⟨told, outside, rfl, fun z hz => ?_⟩
    rw [← funext (completed_channel s i)] at hz
    subst hz
    refine ⟨fun _ _ => rfl, fun l link next armed free' => ?_⟩
    rcases free l link with none_ | locked
    · rw [armed] at none_
      cases none_
    · exact absurd locked free'
  · have starts := startPattern_outside (s.completed i) l next
    obtain ⟨bank, begun, others⟩ := startPattern_starts (s.completed i) l next
    rw [eq]
    refine ⟨Told.trans (outside.same .masks) told (.of_same (starts.same .records)), SameBut_seq outside starts,
      bank, fun z hz => ?_⟩
    rw [← funext (completed_channel s i)] at hz
    subst hz
    refine ⟨fun none_ => ?_, fun k link' next' armed' _ => ?_⟩
    · rcases none_ l link with none_ | locked
      · rw [armed] at none_
        cases none_
      · exact absurd locked free
    · cases Fin.ext (Option.some.inj (link.symm.trans link'))
      cases armed.symm.trans armed'
      exact ⟨begun.trans (begun_modes _ _), others⟩

/-- Settles O43: each state's interval by the table of R155, the last one by the completion. -/
theorem effectIntervalEnds : Obligations.EffectIntervalEnds := by
  intro i s live
  refine ⟨_, eventTaken_next live, ?_⟩
  have moved (x : Channel) : s.ChannelBecomes i x (s.setChannel i x) ∧ SameBut [.effects] s (s.setChannel i x) :=
    ⟨rfl, setChannel_outside s i x⟩
  have completes {pat : Pattern} (running : (s.channel i).running = some pat) :=
    completeEffect_completes s i running
  generalize end_ : s.effectIntervalEnd i = t
  unfold State.effectIntervalEnd at end_
  dsimp only at end_
  cases running : (s.channel i).running with
  | none =>
    rw [running] at end_
    rcases interval : (s.channel i).interval with _ | _ | n
    all_goals rw [interval] at end_; exact end_.symm
  | some pat =>
    rw [running] at end_
    rcases interval : (s.channel i).interval with _ | _ | n
    all_goals rw [interval] at end_
    · exact end_.symm
    · cases state : (s.channel i).state
      all_goals rw [state] at end_
      case pulseOn => exact end_ ▸ completes running
      case burstOff | cycleOn | cycleOff => exact end_ ▸ moved _
      case burstOn =>
        change ite _ _ _ = t at end_
        by_cases more : 1 < (s.channel i).bursts.getD 1
        · rw [decide_eq_true more]
          rw [if_pos more] at end_
          exact end_ ▸ moved _
        · rw [decide_eq_false more]
          rw [if_neg more] at end_
          exact end_ ▸ completes running
      all_goals exact end_.symm
    · exact end_.symm

end Sys2Proof.Machine
end

section
/-! The time base of the effects, lockouts, and the exclusive pair mask (R155, R156, R160 to R162). -/

namespace Sys2Proof.Machine

-- One theorem at a time: each waits for the kernel, and many waiting at once are many threads.
set_option Elab.async false

/-! ## Operations folded over indexes -/

/-- A fold of an operation that, at each index, changes what `obs` sees there by `g`, leaves what it sees at
the others, and leaves what `ctx` sees. -/
theorem foldl_observed {ι β γ : Type} [DecidableEq ι] {op : State → ι → State} {ctx : State → γ}
    {obs : State → ι → β} {g : γ → ι → β → β} (keeps : ∀ t i, ctx (op t i) = ctx t)
    (acts : ∀ t i j, obs (op t i) j = if i = j then g (ctx t) j (obs t j) else obs t j)
    {l : List ι} (once : l.Nodup) (s : State) (j : ι) :
    obs (l.foldl op s) j = if j ∈ l then g (ctx s) j (obs s j) else obs s j := by
  induction l generalizing s with
  | nil => rfl
  | cons i l ih =>
    obtain ⟨out, once⟩ := List.nodup_cons.mp once
    rw [List.foldl_cons, ih once, keeps, acts]
    by_cases same : i = j
    · subst same
      rw [if_neg out, if_pos rfl, if_pos List.mem_cons_self]
    · simp [same, Ne.symm same]

/-! ## One millisecond -/

/-- The conflict count of a pair after a sample (R161). -/
def State.sampledConflict (s : State) (q : Fin 6) (n : Nat) : Nat :=
  if s.exclusive q && !s.lockedOut q then
    if s.pins.readback.getLsbD (lowerOf q) && s.pins.readback.getLsbD (upperOf q) then n + 1 else 0
  else n

theorem conflictSample_effects (s : State) (p : Fin 6) : (s.conflictSample p).effects = { s.effects with
    conflicts := s.effects.conflicts.set p (s.sampledConflict p (s.effects.conflicts[p]'p.isLt)) } := by
  unfold State.conflictSample State.sampledConflict
  split
  · rfl
  · exact congrArg (fun w => { s.effects with conflicts := w }) (Vector.set_getElem_self ..).symm

theorem conflictSample_outside (s : State) (p : Fin 6) : SameBut [.effects] s (s.conflictSample p) :=
  SameBut_ite (onEffects_outside s _) (SameBut_refl _ s)

/-- The pairs' samples leave the bank but for its conflict counts. -/
theorem conflictSamples_effects (s : State) : (allPairs.foldl State.conflictSample s).effects = { s.effects with
    conflicts := (allPairs.foldl State.conflictSample s).effects.conflicts } :=
  foldl_preserves (I := fun t : State => t.effects = { s.effects with conflicts := t.effects.conflicts })
    (fun t p before => by rw [conflictSample_effects, before]) allPairs s rfl

theorem conflictSamples_conflicts (s : State) (q : Fin 6) :
    (allPairs.foldl State.conflictSample s).effects.conflicts[q]'q.isLt = s.sampledConflict q (s.effects.conflicts[q]'q.isLt) := by
  refine (foldl_observed (ctx := State.sampledConflict) (obs := fun t (q : Fin 6) => t.effects.conflicts[q]'q.isLt)
    (g := fun f => f) (fun t p => ?_) (fun t i j => ?_) (by decide) s q).trans (if_pos (mem_allPairs q))
  · have settings : (t.conflictSample p).settings = t.settings := (conflictSample_outside t p).same .settings
    have pins : (t.conflictSample p).pins = t.pins := (conflictSample_outside t p).same .lines
    unfold State.sampledConflict State.lockedOut State.exclusive State.channel
    rw [settings, pins, conflictSample_effects]
  · rw [conflictSample_effects, Vector_get_set]
    split
    · next same => rw [same]
    · rfl

/-- The intervals and the carrier of a millisecond (R155, R156). -/
def State.fallen (pins : Pins) (s : State) : State :=
  allChannels.foldl (fun s c => s.setChannel c (s.channel c).intervalFallen)
    ((s.withPins pins).onEffects fun b => { b with carrierSecond := !b.carrierSecond })

theorem fallen_effects (pins : Pins) (s : State) : (s.fallen pins).effects = { s.effects with
    channel := changedOver Channel.intervalFallen allChannels s.effects.channel
    carrierSecond := !s.effects.carrierSecond } :=
  foldl_setChannel_effects Channel.intervalFallen allChannels _

theorem fallen_outside (pins : Pins) (s : State) : SameBut [.effects, .lines] s (s.fallen pins) := by
  have moved : SameBut [.effects, .lines] s ((s.withPins pins).onEffects fun b =>
      { b with carrierSecond := !b.carrierSecond }) := SameBut_seq (withPins_outside s pins) (onEffects_outside _ _)
  exact SameBut_seq moved (SameBut_foldl (fun t c => setChannel_outside t c _) allChannels _)

theorem fallen_pins (pins : Pins) (s : State) : (s.fallen pins).pins = pins :=
  (SameBut_foldl (fun t c => setChannel_outside t c (t.channel c).intervalFallen) allChannels
    ((s.withPins pins).onEffects fun b => { b with carrierSecond := !b.carrierSecond })).same .lines

/-- One millisecond without an end due before it (R155, R156, R161). -/
theorem effectTick_eq {pins : Pins} {s : State} (settled : s.settleEffects = s) (ends : Ends) :
    s.effectTick pins ends = if ends = .inTick then
      (allPairs.foldl State.conflictSample (s.fallen pins)).settleEffects
    else allPairs.foldl State.conflictSample (s.fallen pins) := by
  unfold State.effectTick
  rw [settled]
  rfl

theorem effectTick_moves (pins : Pins) {s t : State} (sampled : t = allPairs.foldl State.conflictSample (s.fallen pins)) :
    t.pins = pins ∧ t.effects.carrierSecond = (!s.effects.carrierSecond)
      ∧ (∀ i : Fin 12, t.channel i = (s.channel i).intervalFallen)
      ∧ (∀ q : Fin 6, t.effects.conflicts[q]'q.isLt =
        if s.exclusive q = true ∧ ¬ ((s.channel (lowerOf q)).state = .lockedOut
            ∧ (s.channel (upperOf q)).state = .lockedOut) then
          if pins.readback.getLsbD (2 * q.val) && pins.readback.getLsbD (2 * q.val + 1) then
            s.effects.conflicts[q]'q.isLt + 1 else 0
        else s.effects.conflicts[q]'q.isLt)
      ∧ SameBut [.effects, .lines] s t := by
  have samples := SameBut_foldl conflictSample_outside allPairs (s.fallen pins)
  have effects := conflictSamples_effects (s.fallen pins)
  rw [← sampled] at samples effects
  have fallen (i : Fin 12) : (s.fallen pins).channel i = (s.channel i).intervalFallen := by
    rw [State.channel, fallen_effects]
    exact get_changedOver _ (by decide) (by decide) _ i
  refine ⟨(samples.same .lines).trans (fallen_pins pins s), ?_, fun i => ?_, fun q => ?_,
    SameBut_seq (fallen_outside pins s) samples⟩
  · rw [effects, fallen_effects]
  · rw [State.channel, effects]
    exact fallen i
  · rw [sampled, conflictSamples_conflicts]
    unfold State.sampledConflict State.lockedOut
    have settings : (s.fallen pins).exclusive q = s.exclusive q :=
      congrArg (·.exclusivePairMask.getLsbD q) ((fallen_outside pins s).same .settings)
    have state (i : Fin 12) : ((s.fallen pins).channel i).state = (s.channel i).state := by
      rw [fallen]
      rfl
    rw [settings, state, state, fallen_pins, fallen_effects]
    simp only [Bool.and_eq_true, Bool.not_eq_true', Bool.and_eq_false_iff, decide_eq_false_iff_not, not_and_or]
    rfl

/-! ## Lockout -/

/-- Both channels of a pair changed. -/
def State.setPair (f : Channel → Channel) (q : Fin 6) (s : State) : State :=
  let t := s.setChannel (lowerOf q) (f (s.channel (lowerOf q)))
  t.setChannel (upperOf q) (f (t.channel (upperOf q)))

theorem pairOf_iff {i : Fin 12} {q : Fin 6} : pairOf i = q ↔ i = lowerOf q ∨ i = upperOf q := by
  revert i q
  decide

theorem lowerOf_ne_upperOf (p q : Fin 6) : lowerOf p ≠ upperOf q := by
  revert p q
  decide

theorem setPair_channel (f : Channel → Channel) (q : Fin 6) (s : State) (i : Fin 12) :
    (s.setPair f q).channel i = if pairOf i = q then f (s.channel i) else s.channel i := by
  unfold State.setPair
  simp only [State.channel_setChannel, pairOf_iff, if_neg (lowerOf_ne_upperOf q q)]
  by_cases upper : upperOf q = i
  · rw [if_pos upper, if_pos (.inr upper.symm), upper]
  by_cases lower : lowerOf q = i
  · rw [if_neg upper, if_pos lower, if_pos (.inl lower.symm), lower]
  · rw [if_neg upper, if_neg lower, if_neg (not_or.mpr ⟨Ne.symm lower, Ne.symm upper⟩)]

theorem setPair_effects (f : Channel → Channel) (q : Fin 6) (s : State) : (s.setPair f q).effects = { s.effects with
    channel := (s.setPair f q).effects.channel } := rfl

theorem setPair_outside (f : Channel → Channel) (q : Fin 6) (s : State) : SameBut [.effects] s (s.setPair f q) :=
  SameBut_seq (setChannel_outside s _ _) (setChannel_outside _ _ _)

/-- A lockout (R161), and one that is not due (log 3). -/
theorem effectLockout_locks (q : Fin 6) (s : State) :
    if s.effects.conflicts[q]'q.isLt < 5 then s.effectLockout q = s
    else
      Told [.effectConflict] [] s (s.effectLockout q) ∧ SameBut [.records, .effects] s (s.effectLockout q)
      ∧ (s.effectLockout q).effects.conflicts = s.effects.conflicts.set q 0 q.isLt
      ∧ ∀ i : Fin 12, (s.effectLockout q).channel i = if pairOf i = q then
          { s.channel i with state := .lockedOut, running := none, interval := none, bursts := none }
        else s.channel i := by
  have eq : s.effectLockout q = if s.effects.conflicts[q]'q.isLt < 5 then s else
    ((s.setPair (·.stopped .lockedOut) q).onEffects fun b => { b with conflicts := b.conflicts.set q 0 q.isLt }).latch
      .effectConflict := rfl
  split
  · next undue => rw [eq, if_pos undue]
  · next due =>
    have counted : SameBut [.effects] s ((s.setPair (·.stopped .lockedOut) q).onEffects fun b =>
        { b with conflicts := b.conflicts.set q 0 q.isLt }) := SameBut_seq (setPair_outside _ q s) (onEffects_outside _ _)
    rw [eq, if_neg due]
    refine ⟨Told.trans (counted.same .masks) (.of_same (counted.same .records)) (latch_told _ .effectConflict),
      SameBut_seq counted (latch_outside _ _), rfl, fun i => ?_⟩
    exact setPair_channel (·.stopped .lockedOut) q s i

/-- Clear Effect Lockout of a pair (R162). -/
theorem clearLockoutJudged_eq (s : State) {pair : Byte} (small : pair.toNat < 6) :
    s.clearLockoutJudged pair =
      .ok (if ∀ i : Fin 12, (pairOf i).val = pair.toNat → (s.channel i).state = .lockedOut then
        (s.setPair ({ · with state := .off }) ⟨pair.toNat, small⟩).onEffects fun b =>
          { b with conflicts := b.conflicts.set pair.toNat 0 }
      else s) := by
  have both : s.lockedOut ⟨pair.toNat, small⟩ = true
      ↔ ∀ i : Fin 12, (pairOf i).val = pair.toNat → (s.channel i).state = .lockedOut := by
    have named (i : Fin 12) : (pairOf i).val = pair.toNat
        ↔ i = lowerOf ⟨pair.toNat, small⟩ ∨ i = upperOf ⟨pair.toNat, small⟩ := by
      rw [← pairOf_iff, Fin.ext_iff]
    simp only [named, State.lockedOut, Bool.and_eq_true, decide_eq_true_iff, forall_eq_or_imp, forall_eq]
  unfold State.clearLockoutJudged
  rw [finOf_some (v := ⟨pair.toNat, small⟩) small (Nat.mod_eq_of_lt small).symm]
  dsimp only
  simp only [both]
  split <;> rfl

theorem clearLockout_next (p : Port) (pair : Byte) {s : State} (live : s.inReset = false) :
    ∃ t, exec (.clearEffectLockout p pair) s = .next t
      ∧ if p ≠ .c then RefusedOn p .rights 0x61 s t
        else if h : pair.toNat < 6 then
          SameBut [.framing, .effects] s t
          ∧ if ∀ i : Fin 12, (pairOf i).val = pair.toNat → (s.channel i).state = .lockedOut then
              t.effects.conflicts = s.effects.conflicts.set pair.toNat 0
              ∧ ∀ i : Fin 12, t.channel i = if (pairOf i).val = pair.toNat then
                  { s.channel i with state := .off } else s.channel i
            else t.effects = s.effects
        else RefusedOn p .range 0x61 s t := by
  refine judgedCommand_next live fun u t hu refused accepted => ?_
  have effects : u.effects = s.effects := hu.same .effects
  have same (i : Fin 12) : u.channel i = s.channel i := channel_of_effects effects i
  split
  · next small =>
    have taken := accepted _ (clearLockoutJudged_eq u small)
    simp only [same] at taken
    split
    · next locked =>
      rw [if_pos locked] at taken
      have after : t.effects = _ := taken.same .effects
      refine ⟨SameBut_seq (SameBut_seq (c := [.framing, .effects]) hu (setPair_outside _ _ u))
        (SameBut_trans (onEffects_outside _ _) taken), ?_, fun i => ?_⟩
      · rw [after, ← effects]
        rfl
      · rw [State.channel, after, ← same]
        have set := setPair_channel ({ · with state := .off }) ⟨pair.toNat, small⟩ u i
        simp only [Fin.ext_iff] at set
        exact set
    · next free =>
      rw [if_neg free] at taken
      exact ⟨SameBut_mono (SameBut_trans hu taken) (by decide), (taken.same .effects).trans effects⟩
  · next big =>
    refine refused _ ?_
    unfold State.clearLockoutJudged
    rw [finOf_none (Nat.not_lt.mp big)]

/-! ## The exclusive pair mask -/

section
variable (old : BitVec 6) (t : State)

theorem pairMasked_eq (p : Fin 6) : t.pairMasked old p =
    if (old.getLsbD p = false ∧ t.exclusive p = true) ∧ (t.channel (lowerOf p)).state.active = true
        ∧ (t.channel (upperOf p)).state.active = true then t.effectOff (upperOf p)
    else if t.exclusive p = false ∧ old.getLsbD p = true then
      t.onEffects fun b => { b with conflicts := b.conflicts.set p 0 p.isLt }
    else t := by
  unfold State.pairMasked
  cases old.getLsbD p <;> cases t.exclusive p
  all_goals simp

theorem pairMasked_channel (p : Fin 6) (i : Fin 12) : (t.pairMasked old p).channel i =
    if (old.getLsbD p = false ∧ t.exclusive p = true) ∧ (t.channel (lowerOf p)).state.active = true
        ∧ (t.channel (upperOf p)).state.active = true ∧ i = upperOf p then
      (t.channel i).turnedOff
    else t.channel i := by
  have cleared : (t.onEffects fun b => { b with conflicts := b.conflicts.set p 0 p.isLt }).channel i = t.channel i := rfl
  rw [pairMasked_eq]
  by_cases both : (old.getLsbD p = false ∧ t.exclusive p = true) ∧ (t.channel (lowerOf p)).state.active = true
      ∧ (t.channel (upperOf p)).state.active = true
  · rw [if_pos both, effectOff_channel]
    by_cases upper : i = upperOf p
    · subst upper
      rw [if_pos ⟨rfl, both.2.2⟩, if_pos ⟨both.1, both.2.1, both.2.2, rfl⟩]
    · rw [if_neg (not_and_of_not_left _ upper), if_neg fun all => upper all.2.2.2]
  · have not_all : ¬ ((old.getLsbD p = false ∧ t.exclusive p = true) ∧ (t.channel (lowerOf p)).state.active = true
        ∧ (t.channel (upperOf p)).state.active = true ∧ i = upperOf p) :=
      fun all => both ⟨all.1, all.2.1, all.2.2.1⟩
    rw [if_neg both, if_neg not_all]
    split
    · exact cleared
    · rfl

theorem pairMasked_conflicts (p : Fin 6) : (t.pairMasked old p).effects.conflicts =
    if t.exclusive p = false ∧ old.getLsbD p = true then t.effects.conflicts.set p 0 p.isLt else t.effects.conflicts := by
  have off (i : Fin 12) : (t.effectOff i).effects.conflicts = t.effects.conflicts := by
    unfold State.effectOff
    split <;> rfl
  rw [pairMasked_eq]
  split
  · next newly =>
    have now : ¬ (t.exclusive p = false ∧ old.getLsbD p = true) := fun gone => by
      rw [newly.1.1] at gone
      exact Bool.false_ne_true gone.2
    rw [if_neg now, off]
  · split <;> rfl

end

theorem upperOf_inj {p q : Fin 6} : upperOf p = upperOf q ↔ p = q := by
  revert p q
  decide

/-- What a new exclusive pair mask has done to the channels of a pair (R160). -/
theorem storePairMask_pair (v : Nat) (s : State) (q : Fin 6) :
    (s.storePairMask v).channel (lowerOf q) = s.channel (lowerOf q)
      ∧ (s.storePairMask v).channel (upperOf q) =
        if (s.exclusive q = false ∧ (BitVec.ofNat 6 v).getLsbD q = true)
            ∧ (s.channel (lowerOf q)).state.active = true ∧ (s.channel (upperOf q)).state.active = true then
          (s.channel (upperOf q)).turnedOff
        else s.channel (upperOf q) := by
  have mask (t : State) (p : Fin 6) : (t.pairMasked s.settings.exclusivePairMask p).settings = t.settings :=
    (pairMasked_outside t _ p).same .settings
  rw [← Prod.mk.injEq]
  refine (foldl_observed (op := State.pairMasked s.settings.exclusivePairMask) (ctx := State.settings)
    (obs := fun t (q : Fin 6) => (t.channel (lowerOf q), t.channel (upperOf q)))
    (g := fun x (q : Fin 6) c => (c.1, if (s.settings.exclusivePairMask.getLsbD q = false
      ∧ x.exclusivePairMask.getLsbD q = true) ∧ c.1.state.active = true ∧ c.2.state.active = true then
        c.2.turnedOff else c.2)) mask (fun t i j => ?_) (by decide) _ q).trans (if_pos (mem_allPairs q))
  rw [pairMasked_channel, pairMasked_channel]
  simp only [lowerOf_ne_upperOf, upperOf_inj, and_false, if_false]
  by_cases same : i = j
  · subst same
    simp only [and_true, if_true]
    rfl
  · simp only [Ne.symm same, same, and_false, if_false]

theorem storePairMask_conflicts (v : Nat) (s : State) (q : Fin 6) : (s.storePairMask v).effects.conflicts[q]'q.isLt =
    if (BitVec.ofNat 6 v).getLsbD q = false ∧ s.exclusive q = true then 0 else s.effects.conflicts[q]'q.isLt := by
  have mask (t : State) (p : Fin 6) : (t.pairMasked s.settings.exclusivePairMask p).settings = t.settings :=
    (pairMasked_outside t _ p).same .settings
  refine (foldl_observed (op := State.pairMasked s.settings.exclusivePairMask) (ctx := State.settings)
    (obs := fun t (q : Fin 6) => t.effects.conflicts[q]'q.isLt)
    (g := fun x (q : Fin 6) n => if x.exclusivePairMask.getLsbD q = false
      ∧ s.settings.exclusivePairMask.getLsbD q = true then 0 else n) mask (fun t i j => ?_) (by decide) _ q).trans
    (if_pos (mem_allPairs q))
  rw [pairMasked_conflicts]
  by_cases same : i = j
  · subst same
    rw [if_pos rfl]
    split
    · next gone => exact (Vector_get_set ..).trans ((if_pos rfl).trans (if_pos gone).symm)
    · next kept => exact (if_neg kept).symm
  · rw [if_neg same]
    split
    · exact (Vector_get_set ..).trans (if_neg same)
    · rfl

/-- A taken write stores its value in a state that differs from the one before in the framing alone. -/
theorem write_taken {st : Setting} {p : Port} {v : BitVec 32} {s : State} {Q : State → Prop}
    (live : s.inReset = false) (owner : st.owner = p) (admitted : st.admitted s = true)
    (accepts : st.accepts s.settings v.toNat = true) (stored : st.stored v.toNat = v.toNat)
    (taken : ∀ u t, SameBut [.framing] s u → SameBut [.framing] (st.store v.toNat u) t → Q t) :
    ∃ t, commandTaken p (takeWriteSetting p st.number v) s = .next t ∧ Q t := by
  refine judgedOnly_next (j := (·.writeJudged p st.number v.toNat)) live fun u t hu _ accepted => ?_
  refine taken u t hu (accepted _ ?_)
  unfold State.writeJudged
  rw [settingOf_number]
  simp only [owner, admitted_framed hu, admitted, show u.settings = s.settings from hu.same .settings, accepts, stored]
  simp

/-- Settles O44: the millisecond, the lockout and its clearing, and the mask's effect pair by pair. -/
theorem effectMillisecondAndConflicts : Obligations.EffectMillisecondAndConflicts := by
  refine ⟨fun pins s live settled => ?_, fun q s live => ⟨_, eventTaken_next live, effectLockout_locks q s⟩,
    fun p pair s live => clearLockout_next p pair live, fun v s live small => ?_⟩
  · obtain ⟨lines, carrier, channels, conflicts, outside⟩ := effectTick_moves pins (s := s) rfl
    refine ⟨_, (eventTaken_next live).trans (congrArg _ (effectTick_eq settled .asSteps)), lines,
      (eventTaken_next live).trans (congrArg _ (effectTick_eq settled .inTick)), carrier, channels, conflicts, outside⟩
  · refine write_taken (st := .exclusivePairMask) live rfl rfl ((Setting.accepts_iff ..).mpr ⟨Nat.zero_le _, small⟩) rfl
      fun u t hu ht => ?_
    have effects : t.effects = (u.storePairMask v.toNat).effects := ht.same .effects
    have before : u.effects = s.effects := hu.same .effects
    have was (i : Fin 12) : u.channel i = s.channel i := channel_of_effects before i
    have exclusive (q : Fin 6) : u.exclusive q = s.exclusive q :=
      congrArg (·.exclusivePairMask.getLsbD q) (hu.same .settings)
    have now (q : Fin 6) : (BitVec.ofNat 6 v.toNat).getLsbD q = v.getLsbD q := by
      rw [BitVec.getLsbD_ofNat, decide_eq_true q.isLt, Bool.true_and, BitVec.testBit_toNat]
    refine ⟨?_, SameBut.framed hu (storePairMask_outside v.toNat) ht, fun i => ?_, fun q => ?_⟩
    · rw [show t.settings = _ from ht.same .settings, show (Setting.store _ u _) = u.storePairMask v.toNat from rfl,
        storePairMask_settings, show u.settings = s.settings from hu.same .settings]
    · have now : (BitVec.ofNat 6 v.toNat).getLsbD (pairOf i) = v.getLsbD (i.val / 2) := now (pairOf i)
      obtain ⟨lower, upper⟩ := storePairMask_pair v.toNat u (pairOf i)
      rw [show t.channel i = (u.storePairMask v.toNat).channel i from channel_of_effects effects i]
      rcases lower_or_upper i with ⟨own, partner⟩ | ⟨own, partner⟩
      · rw [← own] at lower
        have even : i.val = 2 * (pairOf i).val := congrArg Fin.val own
        rw [lower, was, if_neg fun h => by omega]
      · rw [← own, ← partner, now, exclusive, was, was] at upper
        have odd : i.val % 2 = 1 := by
          have : i.val = 2 * (pairOf i).val + 1 := congrArg Fin.val own
          omega
        rw [upper]
        simp only [odd, true_and, and_assoc, and_comm, and_left_comm]
    · rw [show t.effects.conflicts[q]'q.isLt = (u.storePairMask v.toNat).effects.conflicts[q]'q.isLt from
        congrArg (·.conflicts[q]'q.isLt) effects, storePairMask_conflicts, now, exclusive, before]
      simp only [and_comm]

end Sys2Proof.Machine
end

section
/-! The mount of the clip directory (R168 to R170). -/

namespace Sys2Proof.Machine

-- One theorem at a time: each waits for the kernel, and many waiting at once are many threads.
set_option Elab.async false

/-- The clip that the bytes of an entry spell (R168). -/
def entryClip (b : Vector Byte 12) : Clip :=
  ⟨(b[0]'(by decide)).toNat, if b[1]'(by decide) = 1 then .pcm16 else if b[1]'(by decide) = 2 then .pcm8u else .pcm8s,
    bytes3 (b[2]'(by decide)) (b[3]'(by decide)) (b[4]'(by decide)), bytes3 (b[5]'(by decide)) (b[6]'(by decide)) (b[7]'(by decide)), bytes3 (b[8]'(by decide)) (b[9]'(by decide)) (b[10]'(by decide))⟩

/-- An entry that is stored (R168, R170). -/
def MountProgress.stores (m : MountProgress) (table : List Clip) (b : Vector Byte 12) : Bool :=
  decide (b[0]'(by decide) ≠ 0 ∧ (b[1]'(by decide) = 1 ∨ b[1]'(by decide) = 2 ∨ b[1]'(by decide) = 3) ∧ (entryClip b).loopStart < (entryClip b).length
    ∧ (entryClip b).start + (entryClip b).length * (if b[1]'(by decide) = 1 then 2 else 1) ≤ m.flashSize * 1048576
    ∧ ∀ c ∈ table, c.id ≠ (b[0]'(by decide)).toNat)

/-- An entry that spells a clip of the flash memory (R168). -/
def entryValid (size : Nat) (b : Vector Byte 12) : Bool :=
  decide ((b[1]'(by decide) = 1 ∨ b[1]'(by decide) = 2 ∨ b[1]'(by decide) = 3) ∧ b[0]'(by decide) ≠ 0 ∧ (entryClip b).loopStart < (entryClip b).length
    ∧ (entryClip b).start + (entryClip b).length * (if b[1]'(by decide) = 1 then 2 else 1) ≤ size * 1048576)

/-- The tests of an entry whose format byte names a format (R168). -/
theorem entry_tested {b : Vector Byte 12} {size : Nat} {f : ClipFormat} (known : b[1]'(by decide) = 1 ∨ b[1]'(by decide) = 2 ∨ b[1]'(by decide) = 3)
    (format : (entryClip b).format = f) (width : f.bytesPerSample = if b[1]'(by decide) = 1 then 2 else 1) (c : Clip)
    (spelled : c = { entryClip b with format := f }) :
    (if c.id ≠ 0 ∧ c.length ≠ 0 ∧ c.loopStart < c.length ∧ c.start + c.length * f.bytesPerSample ≤ size * 1048576 then
      some c else none) = if entryValid size b then some (entryClip b) else none := by
  subst format
  have same : c = entryClip b := spelled
  subst same
  refine if_congr (.trans ?_ decide_eq_true_iff.symm) rfl rfl
  rw [← width]
  exact ⟨fun ⟨id, _, loop, fits⟩ => ⟨known, mt (byte_zero (b[0]'(by decide))).mpr id, loop, fits⟩,
    fun ⟨_, id, loop, fits⟩ => ⟨mt (byte_zero (b[0]'(by decide))).mp id, Nat.ne_of_gt (Nat.zero_lt_of_lt loop), loop, fits⟩⟩

theorem clipOfEntry_eq (size : Nat) (b : Vector Byte 12) : clipOfEntry size b =
    if entryValid size b then some (entryClip b) else none := by
  have value {y : Byte} (h : (b[1]'(by decide)).toNat = y.toNat) : b[1]'(by decide) = y := BitVec.toNat_inj.mp h
  unfold clipOfEntry
  split
  · next one =>
    have one : b[1]'(by decide) = 1 := value one
    exact entry_tested (.inl one) (if_pos one) (if_pos one).symm _ rfl
  · next two =>
    have two : b[1]'(by decide) = 2 := value two
    exact entry_tested (.inr (.inl two)) (by rw [entryClip, two]; rfl) (by rw [two]; rfl) _ rfl
  · next three =>
    have three : b[1]'(by decide) = 3 := value three
    exact entry_tested (.inr (.inr three)) (by rw [entryClip, three]; rfl) (by rw [three]; rfl) _ rfl
  · next one two three =>
    refine (if_neg fun h => ?_).symm
    rcases (of_decide_eq_true h).1 with h | h | h
    · exact one (congrArg BitVec.toNat h)
    · exact two (congrArg BitVec.toNat h)
    · exact three (congrArg BitVec.toNat h)

/-- An entry is stored when it is valid and its id is new (R170). -/
theorem stores_iff (m : MountProgress) (table : List Clip) (b : Vector Byte 12) : m.stores table b = true
    ↔ entryValid m.flashSize b = true ∧ ∀ c ∈ table, c.id ≠ (entryClip b).id := by
  refine decide_eq_true_iff.trans (.trans ?_ (and_congr_left' decide_eq_true_iff.symm))
  exact ⟨fun ⟨id, format, loop, fits, new⟩ => ⟨⟨format, id, loop, fits⟩, new⟩,
    fun ⟨⟨format, id, loop, fits⟩, new⟩ => ⟨id, format, loop, fits, new⟩⟩

/-- An entry judged against the table so far (R170). -/
theorem judgeEntry_eq (m : MountProgress) (table : List Clip) (b : Vector Byte 12) :
    m.judgeEntry table b = (if m.stores table b then insertClip (entryClip b) table else table, { m with
      next := m.next + 1, valid := if m.stores table b then m.valid + 1 else m.valid
      invalid := if m.stores table b then m.invalid else m.invalid + 1 }) := by
  have stores := stores_iff m table b
  have fresh : table.any (·.id = (entryClip b).id) = true ↔ ¬ ∀ c ∈ table, c.id ≠ (entryClip b).id := by simp
  unfold MountProgress.judgeEntry
  rw [clipOfEntry_eq]
  generalize entryClip b = c at stores fresh ⊢
  cases valid : entryValid m.flashSize b with
  | false =>
    rw [valid] at stores
    rw [Bool.eq_false_iff.mpr fun on => Bool.false_ne_true (stores.mp on).1]
    rfl
  | true =>
    rw [if_pos rfl]
    by_cases new : ∀ c' ∈ table, c'.id ≠ c.id
    · rw [stores.mpr ⟨valid, new⟩]
      exact if_neg (fresh.not.mpr (not_not.mpr new))
    · rw [Bool.eq_false_iff.mpr fun on => new (stores.mp on).2]
      exact if_pos (fresh.mpr new)

/-- The clip table after an entry (R170). -/
theorem entry_table (m : MountProgress) (table : List Clip) (b : Vector Byte 12) :
    if m.stores table b then
      (if m.stores table b then insertClip (entryClip b) table else table).Perm (entryClip b :: table)
      ∧ ((table.map (·.id)).Pairwise (· < ·) →
        ((if m.stores table b then insertClip (entryClip b) table else table).map (·.id)).Pairwise (· < ·))
    else (if m.stores table b then insertClip (entryClip b) table else table) = table := by
  by_cases stores : m.stores table b = true
  · obtain ⟨-, -, -, -, new⟩ := of_decide_eq_true stores
    rw [if_pos stores, if_pos stores]
    exact ⟨insertClip_perm _ _, fun sorted => insertClip_sorted sorted new⟩
  · rw [if_neg stores, if_neg stores]

/-! ## The ends of the reads -/

/-- What a mount read that ends leaves (R170). -/
def State.mountLeft (clips : List Clip) (mount : Option MountProgress) (request : Bool) (last : Option LastMount)
    (s : State) : State :=
  s.onSound fun u =>
    { u with flash := none, clips := clips, mount := mount, mountRequest := request, lastMount := last }

section
variable {s t : State}

theorem mountLeft_outside (clips : List Clip) (mount : Option MountProgress) (request : Bool)
    (last : Option LastMount) : SameBut [.records, .sound] s (s.mountLeft clips mount request last) :=
  SameBut_mono (onSound_outside s _) (by decide)

theorem mountLeft_latched (clips : List Clip) (mount : Option MountProgress) (request : Bool)
    (last : Option LastMount) (e : Event) :
    SameBut [.records, .sound] s ((s.mountLeft clips mount request last).latch e)
      ∧ Told [e] [] s ((s.mountLeft clips mount request last).latch e) :=
  ⟨SameBut_seq (onSound_outside s _) (latch_outside _ _), latch_told (s.mountLeft clips mount request last) e⟩

theorem mountRead_header {r : FlashRead} {m : MountProgress} (b : Vector Byte 12) (flash : s.sound.flash = some r)
    (mount : s.sound.mount = some m) (owner : r.owner = .mount) (header : m.toRead = none) : s.mountRead b =
      if b[0]'(by decide) = 0xC5 ∧ b[1]'(by decide) = 0x3A ∧ b[2]'(by decide) ≠ 0 then
        s.mountLeft s.sound.clips (some { m with toRead := some (b[2]'(by decide)).toNat }) true s.sound.lastMount
      else (s.mountLeft s.sound.clips none false (some ⟨.badDirectory, 0, 0⟩)).latch .mountDone := by
  unfold State.mountRead
  rw [flash, mount]
  dsimp only
  rw [if_pos owner, header]
  rfl

theorem mountRead_entry {r : FlashRead} {m : MountProgress} (b : Vector Byte 12) {count : Nat}
    (flash : s.sound.flash = some r) (mount : s.sound.mount = some m) (owner : r.owner = .mount)
    (entry : m.toRead = some count) {judged : List Clip × MountProgress}
    (eq : m.judgeEntry s.sound.clips b = judged) : s.mountRead b =
      if judged.2.next < count then s.mountLeft judged.1 (some judged.2) true s.sound.lastMount
      else (s.mountLeft judged.1 none false (some ⟨.done, judged.2.valid, judged.2.invalid⟩)).latch .mountDone := by
  unfold State.mountRead
  rw [flash, mount]
  dsimp only
  rw [if_pos owner, entry]
  dsimp only
  unfold State.entryRead
  rw [State.onSound_sound, eq]
  rfl

end

/-- Settles O49: Mount Clips by its test, and each read that ends by what it reads. -/
theorem mount : Obligations.Mount := by
  refine ⟨fun p s live => judgedCommand_next live fun u t hu refused accepted => ?_, fun b s live => ?_⟩
  · have sound : u.sound = s.sound := hu.same .sound
    have busy : (u.sound.mount.isSome ∨ (allVoices.any fun v => (u.voice v).state ≠ .idle))
        ↔ s.sound.mount.isSome ∨ ∃ v, (s.voice v).state ≠ .idle := by
      have every : ∀ v : Fin 6, v ∈ allVoices := by decide
      unfold State.voice
      simp [sound, every]
    unfold State.mountJudged at refused accepted
    simp only [busy] at refused accepted
    split
    · next mounting => exact refused _ (if_pos mounting)
    · next free =>
      have taken := accepted _ (if_neg free)
      refine ⟨?_, SameBut.framed hu (onSound_outside u _) taken⟩
      rw [show t.sound = _ from taken.same .sound, State.onSound_sound, sound,
        show u.settings = s.settings from hu.same .settings]
  · refine ⟨_, eventTaken_next live, ?_⟩
    generalize read : s.mountRead b = t
    cases flash : s.sound.flash with
    | none =>
      unfold State.mountRead at read
      rw [flash] at read
      exact read.symm
    | some r =>
      cases mount : s.sound.mount with
      | none =>
        unfold State.mountRead at read
        rw [flash, mount] at read
        dsimp only [Option.map_some]
        cases r.owner <;> exact read.symm
      | some m =>
        cases owner : r.owner with
        | voice v =>
          unfold State.mountRead at read
          rw [flash, mount] at read
          dsimp only at read
          rw [if_neg (by simp [owner])] at read
          simp [owner, read]
        | mount =>
          dsimp only [Option.map_some]
          rw [owner]
          cases toRead : m.toRead with
          | none =>
            have left := read.symm.trans (mountRead_header b flash mount owner toRead)
            by_cases good : b[0]'(by decide) = 0xC5 ∧ b[1]'(by decide) = 0x3A ∧ b[2]'(by decide) ≠ 0
            · rw [if_pos good] at left
              subst left
              refine ⟨mountLeft_outside _ _ _ _, rfl, rfl, ?_⟩
              rw [toRead]
              exact ⟨rfl, (if_pos good).mpr ⟨rfl, rfl, rfl, .of_same fun _ => rfl⟩⟩
            · rw [if_neg good] at left
              subst left
              obtain ⟨outside, told⟩ := mountLeft_latched (s := s) s.sound.clips none false (some ⟨.badDirectory, 0, 0⟩)
                .mountDone
              refine ⟨outside, rfl, rfl, ?_⟩
              rw [toRead]
              exact ⟨rfl, (if_neg good).mpr ⟨rfl, rfl, rfl, told⟩⟩
          | some count =>
            have left := read.symm.trans
              (mountRead_entry b flash mount owner toRead (judgeEntry_eq m s.sound.clips b))
            have table := entry_table m s.sound.clips b
            by_cases more : m.next + 1 < count
            · replace left := left.trans (if_pos more)
              subst left
              refine ⟨mountLeft_outside _ _ _ _, rfl, rfl, ?_⟩
              rw [toRead]
              exact ⟨table, (if_pos more).mpr ⟨rfl, rfl, rfl, .of_same fun _ => rfl⟩⟩
            · replace left := left.trans (if_neg more)
              obtain ⟨outside, told⟩ := mountLeft_latched (s := s)
                (if m.stores s.sound.clips b then insertClip (entryClip b) s.sound.clips else s.sound.clips) none false
                (some ⟨.done, if m.stores s.sound.clips b then m.valid + 1 else m.valid,
                  if m.stores s.sound.clips b then m.invalid else m.invalid + 1⟩) .mountDone
              subst left
              refine ⟨outside, rfl, rfl, ?_⟩
              rw [toRead]
              exact ⟨table, (if_neg more).mpr ⟨rfl, rfl, rfl, told⟩⟩

end Sys2Proof.Machine
end

section
/-! The flash arbiter and the refills (R179, R180, R184). -/

namespace Sys2Proof.Machine

-- One theorem at a time: each waits for the kernel, and many waiting at once are many threads.
set_option Elab.async false

/-! ## The arbiter's choice -/

/-- Whether a voice wants a refill (R179), in the words of the rule. -/
def State.wants (s : State) (v : Fin 6) : Bool :=
  decide ((s.voice v).state ≠ .idle ∧ (s.voice v).fifo.length < 256 ∧ (s.voice v).fetchDone = false
    ∧ (s.voice v).refillInFlight = false ∧ (s.clipOn v).isSome)

section
variable {s : State}

theorem refillPending_wants : s.refillPending = s.wants := by
  funext v
  rw [Bool.eq_iff_iff]
  simp only [State.refillPending, State.wants, Bool.and_eq_true, bne_iff_ne, decide_eq_true_iff,
    Bool.not_eq_true', and_assoc]
  rfl

/-- The order in which the arbiter tries voices 0 to 4 (R180). -/
theorem arbiterOrder_eq (last : Nat) :
    arbiterOrder last = (List.range 5).map fun k => ⟨(last + 1 + k) % 5, by omega⟩ := rfl

theorem nextRefill_none (h : s.nextRefill = none) (v : Fin 6) : s.wants v = false := by
  unfold State.nextRefill at h
  rw [refillPending_wants, arbiterOrder_eq] at h
  cases own : s.wants announcer with
  | true => rw [own] at h; cases h
  | false =>
    rw [own] at h
    have rest := List.find?_eq_none.mp h
    by_cases last : v = announcer
    · exact last ▸ own
    · have below : v.val < 5 := by
        have := v.isLt
        have : v.val ≠ 5 := fun h => last (Fin.ext h)
        omega
      refine Bool.eq_false_iff.mpr (rest v (List.mem_map.mpr
        ⟨(v.val + 4 - s.sound.lastServed % 5) % 5, List.mem_range.mpr (by omega), Fin.ext ?_⟩))
      simp only []
      omega

/-- The voice granted is voice 5 if it wants a refill, else the first after the last served (R180). -/
theorem nextRefill_some {v : Fin 6} (h : s.nextRefill = some v) :
    s.wants v = true ∧ (s.wants 5 = true → v = 5)
      ∧ (v ≠ 5 → ∀ k, k < 5 → (v.val + 5 - (s.sound.lastServed + 1) % 5) % 5 > k →
        s.wants ⟨(s.sound.lastServed + 1 + k) % 5, by omega⟩ = false) := by
  unfold State.nextRefill at h
  rw [refillPending_wants, arbiterOrder_eq] at h
  cases own : s.wants announcer with
  | true =>
    rw [own] at h
    cases h
    exact ⟨own, fun _ => rfl, fun other => absurd rfl other⟩
  | false =>
    rw [own] at h
    replace h : List.find? s.wants (List.map _ _) = some v := h
    rw [List.find?_map, Option.map_eq_some_iff] at h
    obtain ⟨i, found, rfl⟩ := h
    obtain ⟨wants, small, earlier⟩ := List.find?_range_eq_some.mp found
    have small : i < 5 := List.mem_range.mp small
    refine ⟨wants, fun on => absurd (own.symm.trans on) Bool.false_ne_true, fun _ k _ before => ?_⟩
    have index : k < i := by simp only [] at before; omega
    simpa using earlier k index

/-! ## The grant -/

theorem clipOn_wants {v : Fin 6} (h : s.wants v = true) : (s.clipOn v).isSome :=
  (of_decide_eq_true h).2.2.2.2

theorem grantRefill_eq {v : Fin 6} {c : Clip} (clip : s.clipOn v = some c) :
    s.grantRefill v = (s.setVoice v { s.voice v with refillInFlight := true }).onSound fun u =>
      { u with flash := some (refillRead v c (s.voice v)),
               lastServed := if v.val < 5 then v.val else u.lastServed } := by
  unfold State.grantRefill
  rw [clip]

theorem bytesPerSample_eq (f : ClipFormat) : f.bytesPerSample = if f = .pcm16 then 2 else 1 := by
  cases f <;> rfl

theorem grantFlash_busy {r : FlashRead} (h : s.sound.flash = some r) : s.grantFlash = s := by
  unfold State.grantFlash
  rw [h]

theorem grantFlash_mount {m : MountProgress} (flash : s.sound.flash = none) (request : s.sound.mountRequest = true)
    (mount : s.sound.mount = some m) :
    s.grantFlash = s.onSound fun u => { u with flash := some m.read, mountRequest := false } := by
  unfold State.grantFlash
  rw [flash, request, mount]

theorem grantFlash_refill (flash : s.sound.flash = none)
    (no : ¬ (s.sound.mountRequest = true ∧ s.sound.mount.isSome = true)) :
    s.grantFlash = s.nextRefill.elim s fun v => s.grantRefill v := by
  unfold State.grantFlash
  rw [flash]
  cases request : s.sound.mountRequest with
  | false => cases s.nextRefill <;> rfl
  | true =>
    cases mount : s.sound.mount with
    | none => cases s.nextRefill <;> rfl
    | some m => exact absurd ⟨request, by rw [mount]; rfl⟩ no

/-! ## Samples and the end of a refill -/

/-- A sample of each format (R184). -/
theorem convertSample_eq (f : ClipFormat) (lo hi : Byte) : convertSample f lo hi = match f with
    | .pcm16 =>
      let w : Int := lo.toNat + 256 * hi.toNat
      if w < 32768 then w else w - 65536
    | .pcm8u => ((lo.toNat : Int) - 128) * 256
    | .pcm8s => (if lo.toNat < 128 then (lo.toNat : Int) else lo.toNat - 256) * 256 := by
  cases f with
  | pcm16 =>
    have word : (hi ++ lo : BitVec 16).toNat = hi.toNat * 256 + lo.toNat := by
      rw [BitVec.toNat_append, ← Nat.shiftLeft_add_eq_or_of_lt lo.isLt, Nat.shiftLeft_eq]
    simp only [convertSample, BitVec.toInt, word]
    split <;> split <;> omega
  | pcm8u => rfl
  | pcm8s =>
    simp only [convertSample, BitVec.toInt]
    split <;> split <;> omega

theorem sampleArrives_eq {r : FlashRead} {v : Fin 6} {c : Clip} (lo hi : Byte) (flash : s.sound.flash = some r)
    (owner : r.owner = .voice v) (clip : s.clipOn v = some c) : s.sampleArrives lo hi =
      if r.arrived < r.samples then
        (s.setVoice v ((s.voice v).fed (convertSample c.format lo hi))).onSound fun u =>
          { u with flash := some { r with arrived := r.arrived + 1 } }
      else s := by
  unfold State.sampleArrives
  rw [flash]
  dsimp only
  rw [owner]
  dsimp only
  rw [clip]

theorem refillEnds_eq {r : FlashRead} {v : Fin 6} {c : Clip} (flash : s.sound.flash = some r)
    (owner : r.owner = .voice v) (clip : s.clipOn v = some c) : s.refillEnds =
      if r.arrived = r.samples then
        (s.setVoice v ((s.voice v).refilled c r.samples)).onSound fun u => { u with flash := none }
      else s := by
  unfold State.refillEnds
  rw [flash]
  dsimp only
  rw [owner]
  dsimp only
  rw [clip]

/-- A voice after its refill (R179). -/
theorem refilled_eq (c : Clip) (n : Nat) (x : Voice) : x.refilled c n =
    let at' := x.fetchPosition + n
    let left := x.fetchPasses.getD 1
    { x with
      refillInFlight := false,
      fetchPosition := if at' = c.length ∧ 1 < left then c.loopStart else at',
      fetchPasses := if at' = c.length ∧ 1 < left then
          some (if left = 255 then 255 else left - 1) else x.fetchPasses,
      fetchDone := x.fetchDone || decide (at' = c.length ∧ left ≤ 1) } := by
  unfold Voice.refilled
  dsimp only
  by_cases ended : x.fetchPosition + n = c.length
  · by_cases more : 1 < x.fetchPasses.getD 1
    · simp [ended, more, Nat.not_le.mpr more]
    · simp [ended, more, Nat.not_lt.mp more]
  · simp [ended]

end

/-- Settles O50: the arbiter's grant by its order, a refill's samples, and its end. -/
theorem flashRefills : Obligations.FlashRefills := by
  refine ⟨fun s live needs eq => ⟨_, eventTaken_next live, ?_⟩,
    fun lo hi s live r flash v owner c clip x eq => ⟨⟨_, eventTaken_next live, ?_⟩, _, eventTaken_next live, ?_⟩⟩
  · obtain rfl : needs = s.wants := eq
    generalize granted : s.grantFlash = t
    cases flash : s.sound.flash with
    | some r =>
      rw [grantFlash_busy flash] at granted
      subst granted
      exact ⟨SameBut_refl _ s, rfl⟩
    | none =>
      by_cases request : s.sound.mountRequest = true ∧ s.sound.mount.isSome = true
      · obtain ⟨m, mount⟩ := Option.isSome_iff_exists.mp request.2
        rw [grantFlash_mount flash request.1 mount] at granted
        subst granted
        refine ⟨onSound_outside s _, (if_pos request).mpr ⟨rfl, fun m' same => ?_⟩⟩
        cases mount.symm.trans same
        cases toRead : m.toRead <;> simp [MountProgress.read, toRead]
      · rw [grantFlash_refill flash request] at granted
        cases next : s.nextRefill with
        | none =>
          rw [next] at granted
          subst granted
          exact ⟨SameBut_refl _ s, (if_neg request).mpr ((if_pos (nextRefill_none next)).mpr rfl)⟩
        | some v =>
          rw [next] at granted
          obtain ⟨wants, announcer, order⟩ := nextRefill_some next
          obtain ⟨c, clip⟩ := Option.isSome_iff_exists.mp (clipOn_wants wants)
          replace granted := (grantRefill_eq clip).symm.trans granted
          subst granted
          have some_wants : ¬ ∀ v, s.wants v = false := fun none => by rw [none v] at wants; cases wants
          refine ⟨SameBut_seq (setVoice_outside s v _) (onSound_outside _ _),
            (if_neg request).mpr ((if_neg some_wants).mpr ⟨v, wants, announcer, order, fun w => ?_, ?_, ?_⟩)⟩
          · exact (State.voice_setVoice s v w _).trans (if_congr eq_comm rfl rfl)
          · have last : (if v.val < 5 then v.val else s.sound.lastServed)
                = if v = 5 then s.sound.lastServed else v.val := by
              have := v.isLt
              by_cases own : v = 5
              · subst own; rfl
              · have : v.val ≠ 5 := fun h => own (Fin.ext h)
                rw [if_neg own, if_pos (by omega)]
            rw [← last]
            rfl
          · intro c' same
            cases clip.symm.trans same
            simp only [← bytesPerSample_eq]
            rfl
  · subst eq
    rw [sampleArrives_eq lo hi flash owner clip]
    split
    · rw [convertSample_eq]
      exact ⟨rfl, SameBut_seq (setVoice_outside s v _) (onSound_outside _ _)⟩
    · rfl
  · subst eq
    rw [refillEnds_eq flash owner clip]
    split
    · rw [refilled_eq]
      exact ⟨rfl, SameBut_seq (setVoice_outside s v _) (onSound_outside _ _)⟩
    · rfl

end Sys2Proof.Machine
end

section
/-! One audio sample period (R177, R181, R184, R185). -/

namespace Sys2Proof.Machine

-- One theorem at a time: each waits for the kernel, and many waiting at once are many threads.
set_option Elab.async false

/-! ## A voice's part -/

/-- Whether a voice is heard (R184). -/
def Voice.heard (x : Voice) : Bool :=
  decide ((x.state = .playing ∨ x.state = .fadingOut) ∧ x.primed = true)

/-- A voice after a sample period (R177, R181, R184). -/
def Voice.sampled (x : Voice) : Voice :=
  if x.heard = false then x
  else if x.fifo ≠ [] then { x with fifo := x.fifo.tail, cursor := x.cursor + 1 }
  else { x with starved := x.starved || !x.fetchDone }

/-- Whether a voice is first found starved (R181). -/
def Voice.starting (x : Voice) : Prop := x.sampled.starved = true ∧ x.starved = false

theorem setVoice_self (s : State) (v : Fin 6) : s.setVoice v (s.voice v) = s := by
  unfold State.setVoice State.voice
  simp [State.onSound]

theorem heard_takes (x : Voice) : x.takes = (x.heard && !x.fifo.isEmpty) := by
  unfold Voice.takes Voice.heard
  rw [Bool.decide_and, Bool.decide_or, Bool.decide_eq_true]

theorem heard_starves (x : Voice) : x.starves = (x.heard && x.fifo.isEmpty && !x.fetchDone) := by
  unfold Voice.starves Voice.heard
  rw [Bool.decide_and, Bool.decide_or, Bool.decide_eq_true]

/-- A voice's part sets its own record, and tells of a starvation that begins. -/
theorem voiceSample_cases (s : State) (v : Fin 6) :
    (¬ (s.voice v).starting ∧ s.voiceSample v = s.setVoice v (s.voice v).sampled)
      ∨ ((s.voice v).starting ∧ s.voiceSample v = (s.setVoice v (s.voice v).sampled).latch .voiceStarved) := by
  have self := setVoice_self s v
  unfold State.voiceSample
  simp only [heard_takes, heard_starves]
  generalize s.voice v = x at self ⊢
  unfold Voice.starting Voice.sampled
  cases heard : x.heard with
  | false => simpa using self.symm
  | true =>
    cases fifo : x.fifo with
    | cons a l => simp
    | nil =>
      cases done : x.fetchDone with
      | true =>
        cases x
        cases fifo
        cases done
        simpa using self.symm
      | false => cases x.starved <;> simp

section
variable (s : State)

theorem voiceSample_outside (v : Fin 6) : SameBut [.records, .sound] s (s.voiceSample v) := by
  rcases voiceSample_cases s v with ⟨-, eq⟩ | ⟨-, eq⟩ <;> rw [eq]
  · exact SameBut_mono (setVoice_outside s v _) (by decide)
  · exact SameBut_seq (setVoice_outside s v _) (latch_outside _ _)

theorem voiceSample_sound (v : Fin 6) : (s.voiceSample v).sound = (s.setVoice v (s.voice v).sampled).sound := by
  rcases voiceSample_cases s v with ⟨-, eq⟩ | ⟨-, eq⟩ <;> rw [eq]
  exact (latch_outside _ _).same .sound

theorem voiceSample_voice (v w : Fin 6) :
    (s.voiceSample v).voice w = if v = w then (s.voice w).sampled else s.voice w := by
  rw [voice_of_sound (voiceSample_sound s v) w, State.voice_setVoice]
  split
  · next own => rw [own]
  · rfl

theorem Told.twice {s t : State} {e : Event} (h : Told ([e] ++ [e]) [] s t) : Told [e] [] s t := by
  intro p
  obtain ⟨events, attn, last⟩ := h p
  refine ⟨events.trans ?_, attn, last⟩
  exact (BitVec.or_assoc _ _ _).trans (congrArg _ BitVec.or_self)

open Classical in
/-- The voices' parts tell of a starvation that begins, once (R181). -/
theorem voiceSamples_told {l : List (Fin 6)} (once : l.Nodup) :
    Told (if ∃ v ∈ l, (s.voice v).starting then [.voiceStarved] else []) [] s (l.foldl State.voiceSample s) := by
  induction l generalizing s with
  | nil => simpa using Told.of_same fun _ => rfl
  | cons v l ih =>
    obtain ⟨out, once⟩ := List.nodup_cons.mp once
    have rest := ih (s.voiceSample v) once
    have same : (∃ w ∈ l, ((s.voiceSample v).voice w).starting) ↔ ∃ w ∈ l, (s.voice w).starting := by
      refine exists_congr fun w => and_congr_right fun inside => ?_
      rw [voiceSample_voice, if_neg fun own : v = w => out (own ▸ inside)]
    have masks := (voiceSample_outside s v).same .masks
    have either : (∃ w ∈ v :: l, (s.voice w).starting)
        ↔ (s.voice v).starting ∨ ∃ w ∈ l, (s.voice w).starting := by
      simp only [List.mem_cons, exists_eq_or_imp]
    simp only [same] at rest
    simp only [either]
    rw [List.foldl_cons]
    rcases voiceSample_cases s v with ⟨quiet, eq⟩ | ⟨starts, eq⟩
    · have silent : Told [] [] s (s.voiceSample v) := .of_same (eq ▸ (setVoice_outside s v _).same .records)
      simp only [quiet, false_or]
      exact silent.trans masks rest
    · have told : Told [.voiceStarved] [] s (s.voiceSample v) := eq ▸ latch_told (s.setVoice v _) .voiceStarved
      rw [if_pos (.inl starts)]
      by_cases more : ∃ w ∈ l, (s.voice w).starting
      · rw [if_pos more] at rest
        exact (told.trans masks rest).twice
      · rw [if_neg more] at rest
        exact told.trans masks rest

/-- All the voices' parts. -/
theorem voiceSamples_voice (w : Fin 6) :
    (allVoices.foldl State.voiceSample s).voice w = (s.voice w).sampled := by
  refine (foldl_observed (op := State.voiceSample) (ctx := fun _ => ()) (obs := State.voice)
    (g := fun _ _ x => x.sampled) (fun _ _ => rfl) voiceSample_voice (by decide) s w).trans (if_pos ?_)
  revert w
  decide

theorem voiceSamples_outside : SameBut [.records, .sound] s (allVoices.foldl State.voiceSample s) :=
  SameBut_foldl voiceSample_outside _ s

theorem voiceSamples_sound :
    ∃ voice, (allVoices.foldl State.voiceSample s).sound = { s.sound with voice := voice } :=
  foldl_preserves (I := fun t : State => ∃ voice, t.sound = { s.sound with voice := voice })
    (fun t v ⟨voice, sound⟩ => by
      rw [voiceSample_sound, State.setVoice_sound, sound]
      exact ⟨_, rfl⟩) _ s ⟨_, rfl⟩

/-! ## The zones' part -/

theorem heard_contribution (z : Fin 4) (v : Fin 6) : s.contribution z v =
    if (s.voice v).heard = true ∧ (s.voice v).zones.getLsbD z = true then
      (s.voice v).fifo.headD 0 * s.effectiveGain v else 0 := by
  unfold State.contribution
  simp only [heard_takes]
  cases (s.voice v).fifo with
  | nil => simp
  | cons a l => simp

/-- The mix of a zone (R184), as a sum over the voices. -/
theorem mixOf_eq (z : Fin 4) : s.mixOf z = (∑ v : Fin 6,
    if (s.voice v).heard = true ∧ (s.voice v).zones.getLsbD z = true then
      (s.voice v).fifo.headD 0 * (s.effectiveGain v : Int) else 0) / 128
      * (s.sound.zone[z]'z.isLt).current / 128 := by
  have sum : (allVoices.map (s.contribution z)).sum = ∑ v : Fin 6, s.contribution z v := (Fin.sum_univ_def _).symm
  unfold State.mixOf
  simp only [sum, heard_contribution]

theorem saturate16_eq (u : Int) : saturate16 u = if u < -32768 then -32768 else if 32767 < u then 32767 else u := by
  unfold saturate16 clampInt
  split <;> [skip; split] <;> omega

theorem saturate16_self (u : Int) : saturate16 u = u ↔ -32768 ≤ u ∧ u ≤ 32767 := by
  unfold saturate16 clampInt
  omega

end

/-- The zones' part of a sample period, `mixed` the state it starts in. -/
def State.formZones (mixed t : State) : State := allZones.foldl (State.formZone mixed) t

section
variable (mixed t : State)

theorem formZones_zone (z : Fin 4) :
    ((mixed.formZones t).sound.formed[z]'z.isLt, (mixed.formZones t).sound.zoneClips[z]'z.isLt)
      = (saturate16 (mixed.mixOf z), if saturate16 (mixed.mixOf z) = mixed.mixOf z then t.sound.zoneClips[z]'z.isLt
        else min 65535 ((t.sound.zoneClips[z]'z.isLt) + 1)) := by
  refine (foldl_observed (op := State.formZone mixed) (ctx := fun _ => ())
    (obs := fun t z => (t.sound.formed[z]'z.isLt, t.sound.zoneClips[z]'z.isLt))
    (g := fun _ z p => (saturate16 (mixed.mixOf z),
      if saturate16 (mixed.mixOf z) = mixed.mixOf z then p.2 else min 65535 (p.2 + 1)))
    (fun _ _ => rfl) (fun t i j => ?_) (by decide) t z).trans (if_pos ?_)
  · simp only [State.formZone, State.onSound_sound, Vector_get_set]
    split
    · next own => rw [own]
    · rfl
  · revert z
    decide

theorem formZones_outside : SameBut [.sound] t (mixed.formZones t) :=
  SameBut_foldl (fun u z => show SameBut [.sound] u (State.formZone mixed u z) from onSound_outside u _) _ t

theorem formZones_sound : ∃ formed clips,
    (mixed.formZones t).sound = { t.sound with formed := formed, zoneClips := clips } :=
  foldl_preserves (I := fun u : State => ∃ formed clips, u.sound = { t.sound with formed := formed, zoneClips := clips })
    (fun u z ⟨formed, clips, sound⟩ => by
      rw [State.formZone, State.onSound_sound, sound]
      exact ⟨_, _, rfl⟩) _ t ⟨_, _, rfl⟩

end

/-- A sample period with no end in it (R184). -/
def State.sampledPeriod (s : State) : State :=
  allVoices.foldl State.voiceSample (s.formZones (s.onSound fun u => { u with sent := u.formed }))

theorem exec_samplePeriod {s : State} (live : s.inReset = false) (settled : s.settleSamples = s) :
    exec (.audioSamplePeriod .asSteps) s = .next s.sampledPeriod
      ∧ exec (.audioSamplePeriod .inTick) s = .next s.sampledPeriod.settleSamples := by
  have period (ends : Ends) : s.samplePeriod ends
      = if ends = .inTick then s.sampledPeriod.settleSamples else s.sampledPeriod := by
    unfold State.samplePeriod
    rw [settled]
    rfl
  exact ⟨(eventTaken_next live).trans (congrArg _ ((period .asSteps).trans (if_neg nofun))),
    (eventTaken_next live).trans (congrArg _ ((period .inTick).trans (if_pos rfl)))⟩

/-- Settles O51: what the zones send and form, and what the voices take. -/
theorem samplePeriod : Obligations.SamplePeriod := by
  intro s live settled heard heard_eq gain gain_eq
  obtain rfl : heard = fun v => (s.voice v).heard := heard_eq
  have gains (v : Fin 6) : gain v = (s.effectiveGain v : Int) := by
    rw [gain_eq]
    unfold State.effectiveGain
    dsimp only
    split <;> [exact (if_pos ‹_›).symm ▸ rfl; exact (if_neg ‹_›).symm ▸ rfl]
  obtain ⟨asSteps, inTick⟩ := exec_samplePeriod live settled
  refine ⟨_, asSteps, inTick, ?_⟩
  unfold State.sampledPeriod
  generalize sent : s.onSound (fun u => { u with sent := u.formed }) = u
  generalize formed : s.formZones u = w
  generalize taken : allVoices.foldl State.voiceSample w = t
  have u_outside : SameBut [.sound] s u := sent ▸ onSound_outside s _
  have u_sound : u.sound = { s.sound with sent := s.sound.formed } := sent ▸ rfl
  have w_outside : SameBut [.sound] s w := SameBut_seq u_outside (formed ▸ formZones_outside s u)
  obtain ⟨f, c, w_sound⟩ : ∃ f c, w.sound = { u.sound with formed := f, zoneClips := c } :=
    formed ▸ formZones_sound s u
  obtain ⟨voice, t_sound⟩ : ∃ voice, t.sound = { w.sound with voice := voice } := taken ▸ voiceSamples_sound w
  have voices (v : Fin 6) : w.voice v = s.voice v := by
    unfold State.voice
    rw [w_sound, u_sound]
  have after (v : Fin 6) : t.voice v = (s.voice v).sampled := by
    rw [← taken, voiceSamples_voice, voices]
  have told := taken ▸ voiceSamples_told w (l := allVoices) (by decide)
  refine ⟨fun z => ?_, fun v => after v, ?_, ?_, SameBut_seq w_outside (taken ▸ voiceSamples_outside w)⟩
  · have zone := formZones_zone s u z
    rw [formed, Prod.mk.injEq, u_sound] at zone
    obtain ⟨out, clips⟩ := zone
    have sent : t.sound.sent = s.sound.formed := by rw [t_sound, w_sound, u_sound]
    have same : t.sound.formed = w.sound.formed ∧ t.sound.zoneClips = w.sound.zoneClips := by
      rw [t_sound]
      exact ⟨rfl, rfl⟩
    simp only [gains, sent, same]
    rw [← mixOf_eq, out, clips, ← saturate16_eq]
    exact ⟨trivial, rfl, if_congr (saturate16_self _) rfl rfl⟩
  · rw [t_sound, w_sound, u_sound]
  · have started : (∃ v ∈ allVoices, (w.voice v).starting)
        ↔ ∃ v, (t.voice v).starved = true ∧ (s.voice v).starved = false := by
      simp only [after, voices]
      exact exists_congr fun v => and_iff_right (by revert v; decide)
    simp only [started] at told
    exact Told.trans (w_outside.same .masks) (.of_same (w_outside.same .records)) told

end Sys2Proof.Machine
end

section
/-! The show stop in its three receivers (R78, R137, R163, R186, R187). -/

namespace Sys2Proof.Machine

-- One theorem at a time: each waits for the kernel, and many waiting at once are many threads.
set_option Elab.async false

/-! ## Folds seen through one block -/

/-- A fold of an operation that acts on what `obs` sees by what `ctx` sees, which it leaves. -/
theorem foldl_seen {ι β γ : Type} {op : State → ι → State} {ctx : State → γ} {obs : State → β}
    {g : γ → β → ι → β} (keeps : ∀ t i, ctx (op t i) = ctx t)
    (acts : ∀ t i, obs (op t i) = g (ctx t) (obs t) i) (l : List ι) (s : State) :
    obs (l.foldl op s) = l.foldl (g (ctx s)) (obs s) := by
  induction l generalizing s with
  | nil => rfl
  | cons i l ih => rw [List.foldl_cons, ih, keeps, acts, List.foldl_cons]

/-! ## Sound -/

/-- A voice of 0 to 4 as a show stop leaves it (R186). -/
def Voice.showStopped (fade : Nat) (x : Voice) : Voice :=
  match x.state with
  | .playing => { x with target := 0, step := fade, state := .fadingOut, fade := some .showStop }
  | .fadingOut => { x with target := 0, step := max x.step fade }
  | .paused => x.atEnd .showStop
  | .idle => x

/-- What a show stop does to the unit at one of voices 0 to 4 (R186, R171). -/
def SoundUnit.showStopped (fade : Nat) (u : SoundUnit) (v : Fin 6) : SoundUnit :=
  { u with
    voice := u.voice.set v ((u.voice[v]'v.isLt).showStopped fade) v.isLt
    flash := if (u.voice[v]'v.isLt).state = .paused ∧ u.flash.any (·.owner = .voice v) then none else u.flash }

/-- What the announcement does to the unit (R187). -/
def SoundUnit.announced (cause : ShowCause) (x : Settings) (u : SoundUnit) : SoundUnit :=
  let clip := x.announcementClips[cause.index]'cause.index.isLt
  if clip = 0 then { u with lastAnnouncement := some ⟨cause, .noClip⟩ }
  else if u.mount.isSome then { u with lastAnnouncement := some ⟨cause, .mounting⟩ }
  else if (u.clipOf clip).isNone then { u with lastAnnouncement := some ⟨cause, .notMounted⟩ }
  else
    let idle := decide ((u.voice[5]'(by decide)).state = .idle)
    { u with
      voice := u.voice.set 5 ((if idle then u.voice[5]'(by decide) else (u.voice[5]'(by decide)).atEnd .cut).started
        u.heldSeen ⟨clip, x.announcementGain, 0, 15#4, 1, .playOn⟩) (by decide)
      flash := if !idle && u.flash.any (·.owner = .voice 5) then none else u.flash
      lastAnnouncement := some ⟨cause, .played⟩ }

section
variable (s : State)

theorem setVoice_same {u : SoundUnit} {v : Fin 6} : { u with voice := u.voice.set v (u.voice[v]'v.isLt) v.isLt } = u := by
  simp

theorem showStopVoice_sound (v : Fin 6) :
    (s.showStopVoice v).sound = s.sound.showStopped s.settings.faultFadeStep v := by
  unfold State.showStopVoice SoundUnit.showStopped Voice.showStopped State.voice
  dsimp only
  cases state : (s.sound.voice[v]'v.isLt).state with
  | playing => rfl
  | fadingOut => rfl
  | idle => exact setVoice_same.symm
  | paused =>
    have ends := (endVoice_ends s v .showStop).1
    unfold State.VoiceBecomes at ends
    simpa [State.voice] using ends

theorem announce_sound (cause : ShowCause) : (s.announce cause).sound = s.sound.announced cause s.settings := by
  obtain ⟨started, -⟩ := startVoice_becomes s announcer
    ⟨s.settings.announcementClips[cause.index]'cause.index.isLt, s.settings.announcementGain, 0, 15#4, 1, .playOn⟩ rfl
  unfold State.announce SoundUnit.announced
  dsimp only
  split
  · rfl
  split
  · rfl
  split
  · rfl
  · rw [State.onSound_sound, started]
    rfl

theorem soundShowStop_sound (cause : ShowCause) : (s.soundShowStop cause).sound =
    (([0, 1, 2, 3, 4] : List (Fin 6)).foldl (SoundUnit.showStopped s.settings.faultFadeStep) s.sound).announced cause
      s.settings := by
  have settings (t : State) (v : Fin 6) : (t.showStopVoice v).settings = t.settings :=
    (showStopVoice_outside t v).same .settings
  unfold State.soundShowStop
  generalize ([0, 1, 2, 3, 4] : List (Fin 6)) = l
  have kept : (l.foldl State.showStopVoice s).settings = s.settings :=
    (SameBut_foldl showStopVoice_outside l s).same .settings
  have seen := foldl_seen (op := State.showStopVoice) (obs := State.sound)
    (g := fun x => SoundUnit.showStopped x.faultFadeStep) settings showStopVoice_sound l s
  rw [announce_sound, kept, seen]

/-! ## Effects -/

/-- What a show stop does to the bank at a channel (R163). -/
def EffectBank.showStopped (x : Settings) (b : EffectBank) (c : Fin 12) : EffectBank :=
  if x.safeOffMask.getLsbD c ∧ (b.channel[c]'c.isLt).state.active then
    { b with channel := b.channel.set c (b.channel[c]'c.isLt).turnedOff c.isLt }
  else b

theorem effectShowStop_effects :
    s.effectShowStop.effects = allChannels.foldl (EffectBank.showStopped s.settings) s.effects :=
  foldl_seen (ctx := State.settings) (obs := State.effects) (g := EffectBank.showStopped)
    (fun t c => by split <;> [exact (effectOff_outside t c).same .settings; rfl])
    (fun t c => by
      unfold EffectBank.showStopped State.effectOff State.channel
      split
      · next masked => simp only [masked, true_and]; split <;> rfl
      · next free => rw [if_neg fun h => free h.1]) allChannels s

/-! ## All three -/

theorem showStop_show (cause : ShowCause) :
    (s.showStop cause).cues = { s.cues with engine := if s.cues.engine = .armed then .suppressed else s.cues.engine }
      ∧ (s.showStop cause).effects = allChannels.foldl (EffectBank.showStopped s.settings) s.effects
      ∧ (s.showStop cause).sound = (([0, 1, 2, 3, 4] : List (Fin 6)).foldl
          (SoundUnit.showStopped s.settings.faultFadeStep) s.sound).announced cause s.settings := by
  unfold State.showStop
  have sound := soundShowStop_outside s.cueSuppress cause
  refine ⟨?_, ?_, ?_⟩
  · rw [(effectShowStop_outside _).same .cues, sound.same .cues]
    unfold State.cueSuppress
    rw [State.onCues_cues]
    split <;> rfl
  · rw [effectShowStop_effects, sound.same .settings, sound.same .effects]
    rfl
  · rw [(effectShowStop_outside _).same .sound, soundShowStop_sound]
    rfl

/-- A show stop of a state that has the settings, cues, effects and sound of another. -/
theorem showStop_stopped {s u : State} {cause : ShowCause} (settings : u.settings = s.settings)
    (cues : u.cues = s.cues) (effects : u.effects = s.effects) (sound : u.sound = s.sound) :
    s.ShowStopped cause (u.showStop cause) := by
  obtain ⟨cues', effects', sound'⟩ := showStop_show u cause
  obtain ⟨cues'', effects'', sound''⟩ := showStop_show s cause
  rw [cues] at cues'
  rw [settings, effects] at effects'
  rw [settings, sound] at sound'
  exact ⟨cues'.trans cues''.symm, effects'.trans effects''.symm, sound'.trans sound''.symm⟩

end

end Sys2Proof.Machine
end

section
/-! Stops at once and motion faults (R57, R71, R74 to R77, R91). -/

namespace Sys2Proof.Machine

-- One theorem at a time: each waits for the kernel, and many waiting at once are many threads.
set_option Elab.async false

/-! ## The Drive Pulse Unit at rest -/

/-- No pulses due, fractions cleared, brake applied (R57). -/
structure DriveUnit.AtRest (d : DriveUnit) : Prop where
  accumulator : d.accumulator = 0
  residual : d.residual = 0
  brake : d.brakeRelease = false
  plans : ∀ i, (d.plan.get i).remaining = 0

theorem dropPlan_plan (d : DriveUnit) (i j : Axis) :
    ((d.dropPlan i).plan.get j).remaining = if j = i then 0 else (d.plan.get j).remaining := by
  unfold DriveUnit.dropPlan
  rw [PerAxis_get_set]
  split
  · exact Nat.sub_self (d.plan.get i).emitted
  · rfl

theorem cut_atRest (s : State) : s.cut.drive.AtRest := by
  refine ⟨rfl, rfl, rfl, fun i => ?_⟩
  unfold State.cut
  generalize allAxes.foldl State.establish s = t
  show (((((t.drive.dropPlan .left).dropPlan .right).dropPlan .turntable).plan.get i).remaining = 0)
  simp only [dropPlan_plan]
  cases i <;> rfl

section
variable {s t : State}

theorem establish_of_rest {i : Axis} (h : (s.drive.plan.get i).remaining = 0) : s.establish i = s := if_pos h

theorem endPlan_atRest (i : Axis) (h : s.drive.AtRest) : (s.endPlan i).drive.AtRest := by
  obtain ⟨accumulator, residual, brake, plans⟩ := h
  unfold State.endPlan
  rw [establish_of_rest (plans i)]
  refine ⟨accumulator, residual, brake, fun j => ?_⟩
  rw [State.onDrive_drive, dropPlan_plan]
  split
  · rfl
  · exact plans j

theorem rederive_atRest (h : s.drive.AtRest) : s.rederive.drive.AtRest := by
  obtain ⟨accumulator, residual, brake, plans⟩ := h
  have established : allAxes.foldl State.establish s = s :=
    List.foldl_fixed' (fun i => establish_of_rest (plans i)) _
  have quiet : (allAxes.any fun i => (s.drive.plan.get i).remaining != 0) = false := by simp [plans]
  unfold State.rederive
  split
  · exact ⟨accumulator, residual, brake, plans⟩
  split
  · exact ⟨accumulator, residual, brake, plans⟩
  · unfold State.driveFall
    simp only [established, quiet]
    exact ⟨accumulator, residual, brake, plans⟩

/-! ## The turntable stopped at once -/

/-- A run in flight ends CUT (R91). -/
theorem turntableStop_eq (running : s.tt.phase ≠ .idle) : s.turntableStop = match s.tt.run.map Run.kind with
    | some (.turn target mode) => (s.endPlan .turntable).turnEnds target mode .cut
    | some .home => (s.endPlan .turntable).homeEnds .cut
    | none => (s.endPlan .turntable).onTurntable (·.runEnded) := by
  unfold State.turntableStop
  rw [if_neg running]
  dsimp only
  rw [(endPlan_pulsed s .turntable).tt]
  cases s.tt.run with
  | none => rfl
  | some r => cases h : r.kind <;> simp [h]

theorem turntableStop_atRest (h : s.drive.AtRest) : s.turntableStop.drive.AtRest := by
  have ended := endPlan_atRest .turntable h
  unfold State.turntableStop
  split
  · exact h
  dsimp only
  split
  · split <;> exact ended
  · exact ended

theorem latch_latched (s : State) (e : Event) (q : Port) : ((s.latch e).ports.get q).Latched e := by
  rw [State.latch_ports, PerPort_get_map]
  exact latched_latch_same _ _

theorem turntableStop_cut : s.RunCut s.turntableStop := by
  have tt := (endPlan_pulsed s .turntable).tt
  have homed : (s.endPlan .turntable).tt.homed = s.tt.homed := by rw [tt]
  have lastTurn : (s.endPlan .turntable).tt.lastTurn = s.tt.lastTurn := by rw [tt]
  have lastHome : (s.endPlan .turntable).tt.lastHome = s.tt.lastHome := by rw [tt]
  by_cases idle : s.tt.phase = .idle
  · rw [State.turntableStop, if_pos idle]
    unfold State.RunCut
    rw [idle]
    exact ⟨rfl, rfl, rfl, rfl, rfl⟩
  rw [turntableStop_eq idle]
  unfold State.RunCut
  cases kind : s.tt.run.map Run.kind with
  | none =>
    refine ⟨rfl, homed, ?_⟩
    cases phase : s.tt.phase with
    | idle => exact absurd phase idle
    | _ => exact ⟨rfl, rfl, lastTurn, lastHome⟩
  | some k =>
    cases k with
    | turn target mode =>
      refine ⟨rfl, homed, ?_⟩
      cases phase : s.tt.phase with
      | idle => exact absurd phase idle
      | _ => exact ⟨rfl, rfl, rfl, lastHome, latch_latched _ .turnDone⟩
    | home =>
      refine ⟨rfl, homed, ?_⟩
      cases phase : s.tt.phase with
      | idle => exact absurd phase idle
      | _ => exact ⟨rfl, rfl, lastTurn, rfl, latch_latched _ .homeFailed⟩

theorem turntableStop_position : s.turntableStop.tt.position = s.tt.position := by
  have position : (s.endPlan .turntable).tt.position = s.tt.position := by rw [(endPlan_pulsed s .turntable).tt]
  by_cases idle : s.tt.phase = .idle
  · rw [State.turntableStop, if_pos idle]
  rw [turntableStop_eq idle]
  split
  · exact position
  · exact position
  · exact position

/-- A run cut stays cut where the turntable stays and no event is lost. -/
theorem State.RunCut.later {u : State} (h : s.RunCut u) (tt : t.tt = u.tt) (later : Reaction u t) : s.RunCut t := by
  obtain ⟨idle, homed, cut⟩ := h
  refine ⟨tt ▸ idle, tt ▸ homed, ?_⟩
  revert cut
  split
  · exact fun ⟨run, turn, home⟩ => ⟨tt ▸ run, tt ▸ turn, tt ▸ home⟩
  · exact fun ⟨run, timer, turn, home, told⟩ =>
      ⟨tt ▸ run, tt ▸ timer, tt ▸ turn, tt ▸ home, fun p => later.latched p .turnDone (told p)⟩
  · exact fun ⟨run, timer, turn, home, told⟩ =>
      ⟨tt ▸ run, tt ▸ timer, tt ▸ turn, tt ▸ home, fun p => later.latched p .homeFailed (told p)⟩
  · exact fun ⟨run, timer, turn, home⟩ => ⟨tt ▸ run, tt ▸ timer, tt ▸ turn, tt ▸ home⟩

theorem State.RunCut.earlier {u : State} (tt : u.tt = s.tt) (h : u.RunCut t) : s.RunCut t := by
  unfold State.RunCut at h ⊢
  rwa [tt] at h

/-! ## The stop of everything -/

theorem stopAll_tt : s.stopAll.tt = s.cut.turntableStop.tt := by
  unfold State.stopAll
  exact State.onMotion_tt _ _

theorem stopAll_atRest : s.stopAll.drive.AtRest := by
  have rest := turntableStop_atRest (cut_atRest s)
  unfold State.stopAll
  rwa [State.onMotion_drive]

theorem stopAll_cut : s.RunCut s.stopAll := by
  have later : Reaction s.cut.turntableStop s.stopAll := by
    unfold State.stopAll
    exact .outside (onMotion_outside _ _)
  exact (State.RunCut.earlier (cut_pulsed s).tt turntableStop_cut).later stopAll_tt later

theorem stopAll_position : s.stopAll.tt.position = s.tt.position := by
  rw [stopAll_tt, turntableStop_position, (cut_pulsed s).tt]

theorem stopAll_idle (idle : s.tt.phase = .idle) : s.stopAll.tt = s.tt := by
  have tt := (cut_pulsed s).tt
  rw [stopAll_tt, State.turntableStop, if_pos (by rw [tt]; exact idle), tt]

/-- Drive enable falls after the stop of everything, whatever phase without drives follows. -/
theorem stopAll_rederive {w : State} (frame : SameBut [.records, .motion] s.stopAll w)
    (phase : w.motion.phase.drives = false) (latch : w.motion.servoLatch = false) :
    w.rederive.drive.AtRest ∧ w.rederive.drive.enable = false ∧ w.rederive.tt = s.stopAll.tt := by
  have drive : w.drive = s.stopAll.drive := frame.same .drive
  have tt : w.tt = s.stopAll.tt := frame.same .turntable
  refine ⟨rederive_atRest (drive ▸ stopAll_atRest), ?_, (rederive_tt w).trans tt⟩
  rw [rederive_enable, State.driveWanted, phase, latch, tt, (stopAll_stopped s).idle]
  rfl

/-! ## A first fault (R75) -/

/-- A first fault before it is told to the permit and the show. -/
def State.faultEntered (record : FaultRecord) (s : State) : State :=
  (((s.stopAll.onMotion fun m => { m with fault := some record }).enterPhase .faulted).latch .motionFault).rederive

/-- What a first fault records (R75). -/
def State.faultRecord (cause : FaultCause) (s : State) : FaultRecord :=
  ⟨cause, s.route.position, s.motion.current.map (·.leg.tag)⟩

theorem firstFault_eq (cause : FaultCause) : s.firstFault cause =
    ((s.faultEntered (s.faultRecord cause)).permitLoss .motionFault).showStop .motionFault := rfl

theorem faultEntered_stopped (record : FaultRecord) :
    (s.faultEntered record).drive.AtRest ∧ (s.faultEntered record).drive.enable = false
      ∧ (s.faultEntered record).tt = s.stopAll.tt := by
  unfold State.faultEntered
  refine stopAll_rederive ?_ ?_ ?_
  · exact SameBut_seq (SameBut_seq (c := [.records, .motion]) (onMotion_outside _ _) (enterPhase_outside _ _))
      (latch_outside _ _)
  · rw [State.latch_motion, enterPhase_motion]; rfl
  · rw [State.latch_motion, enterPhase_motion, State.onMotion_motion, (stopAll_stopped s).motion]

theorem faultEntered_phase (record : FaultRecord) : (s.faultEntered record).motion.phase = .faulted := by
  unfold State.faultEntered
  rw [rederive_motion, State.latch_motion, enterPhase_motion]

theorem faultEntered_reaction (record : FaultRecord) : Reaction s.stopAll (s.faultEntered record) :=
  (((Reaction.outside (onMotion_outside _ _)).trans (enterPhase_reaction _ _)).trans (latch_reaction _ _)).trans
    (rederive_reaction _)

theorem faultEntered_latched (record : FaultRecord) (q : Port) :
    ((s.faultEntered record).ports.get q).Latched .motionFault :=
  (rederive_reaction _).latched q _ (latch_latched _ _ q)

theorem faultEntered_outside (record : FaultRecord) :
    SameBut [.records, .motion, .drive, .turntable, .seats, .model] s (s.faultEntered record) :=
  SameBut_seq (SameBut_seq (c := [.records, .motion, .drive, .turntable, .model])
    (SameBut_seq (c := [.records, .motion, .drive, .turntable, .model])
      (SameBut_seq (c := [.records, .motion, .drive, .turntable, .model]) (stopAll_outside s) (onMotion_outside _ _))
      (enterPhase_outside _ _)) (latch_outside _ _)) (rederive_outside _)

/-- In FAULTED with the turntable idle a loss of the permit is told to nobody but the ports (R72, R90). -/
theorem permitLoss_quiet (cause : LossCause) (phase : s.motion.phase = .faulted) (idle : s.tt.phase = .idle) :
    s.permitLoss cause = if s.permit.state = .noPermit then s
      else (s.onPermit (·.dropped cause)).latch .permitLost := by
  unfold State.permitLoss
  split
  · rfl
  have motion : ((s.onPermit (·.dropped cause)).latch .permitLost).motionPermitLoss
      = (s.onPermit (·.dropped cause)).latch .permitLost := by
    unfold State.motionPermitLoss
    rw [State.latch_motion, State.onPermit_motion, phase]
  rw [motion, State.turntablePermitLoss, State.latch_tt, State.onPermit_tt, idle]

/-- A loss of the permit in that state, block by block. -/
theorem permitLoss_quiet_outside (cause : LossCause) (phase : s.motion.phase = .faulted)
    (idle : s.tt.phase = .idle) : SameBut [.records, .permit] s (s.permitLoss cause) := by
  rw [permitLoss_quiet cause phase idle]
  exact SameBut_ite (SameBut_refl _ _) (SameBut_seq (onPermit_outside _ _) (latch_outside _ _))

theorem permitLoss_record (cause : LossCause) : (s.permitLoss cause).permit =
    if s.permit.state = .noPermit then s.permit else s.permit.dropped cause := by
  split
  · next none => rw [State.permitLoss, if_pos none]
  · next held => exact permitLoss_permit cause held

theorem permitLoss_reacts (cause : LossCause) : Reaction s (s.permitLoss cause) := by
  by_cases held : s.permit.state = .noPermit
  · rw [State.permitLoss, if_pos held]
    exact .refl s
  · exact permitLoss_reaction cause held

/-- What a first fault leaves beyond the motion and the ports' records (R75, R78, R91). -/
structure FirstFaulted (cause : FaultCause) (s t : State) : Prop where
  motion : t.motion = { s.motion.programmeDropped with
    servoLatch := false, current := none, retreat := none, phaseTimer := none, pendingStop := none,
    phase := .faulted, fault := some (s.faultRecord cause) }
  drive : t.drive.AtRest
  enable : t.drive.enable = false
  tt : t.tt = s.stopAll.tt
  cut : s.RunCut t
  told : ∀ q, (t.ports.get q).Latched .motionFault
  permit : t.permit = if s.permit.state = .noPermit then s.permit else s.permit.dropped .motionFault
  shown : s.ShowStopped .motionFault t

theorem firstFault_faulted (cause : FaultCause) : FirstFaulted cause s (s.firstFault cause) := by
  have motion := firstFault_motion s cause
  rw [firstFault_eq] at motion ⊢
  obtain ⟨drive, enable, tt⟩ := faultEntered_stopped (s := s) (s.faultRecord cause)
  have phase := faultEntered_phase (s := s) (s.faultRecord cause)
  have reaction := faultEntered_reaction (s := s) (s.faultRecord cause)
  have latched := faultEntered_latched (s := s) (s.faultRecord cause)
  have outside := faultEntered_outside (s := s) (s.faultRecord cause)
  generalize s.faultEntered (s.faultRecord cause) = u at *
  have idle : u.tt.phase = .idle := by rw [tt]; exact (stopAll_stopped s).idle
  have loss := permitLoss_quiet_outside .motionFault phase idle
  have permit := permitLoss_record (s := u) .motionFault
  have lossReacts := permitLoss_reacts (s := u) .motionFault
  generalize u.permitLoss .motionFault = v at *
  have later := lossReacts.trans (showStop_reaction v .motionFault)
  have stops := SameBut_seq (c := [.records, .permit, .cues, .effects, .sound]) loss (showStop_outside v .motionFault)
  have sameDrive : (v.showStop .motionFault).drive = u.drive := stops.same .drive
  have sameTable : (v.showStop .motionFault).tt = s.stopAll.tt := (stops.same .turntable).trans tt
  have until_loss := SameBut_seq (c := [.records, .motion, .drive, .turntable, .seats, .permit, .model]) outside loss
  refine ⟨motion, sameDrive ▸ drive, sameDrive ▸ enable, sameTable,
    stopAll_cut.later sameTable (reaction.trans later), fun q => later.latched q _ (latched q), ?_, ?_⟩
  · rw [(showStop_outside v .motionFault).same .permit, permit, outside.same .permit]
  · exact showStop_stopped (until_loss.same .settings) (until_loss.same .cues) (until_loss.same .effects)
      (until_loss.same .sound)

theorem stopped_of {m : MotionGenerator} (motion : t.motion = m) (current : m.current = none) (queue : m.queue = [])
    (holds : m.holds = ⟨false, false, false⟩) (scene : m.sceneTimer = none) (retreat : m.retreat = none)
    (timer : m.phaseTimer = none) (pending : m.pendingStop = none) (latch : m.servoLatch = false)
    (drive : t.drive.AtRest) (enable : t.drive.enable = false) (idle : t.tt.phase = .idle) : t.Stopped := by
  subst motion
  obtain ⟨accumulator, residual, brake, plans⟩ := drive
  exact ⟨current, queue, holds, scene, retreat, timer, pending, latch, accumulator, residual, brake, enable, plans,
    idle⟩

theorem FirstFaulted.stopped {cause : FaultCause} (h : FirstFaulted cause s t) : t.Stopped :=
  stopped_of h.motion rfl rfl rfl rfl rfl rfl rfl rfl h.drive h.enable h.cut.1

/-! ## A second fault (R76) -/

/-- What a second fault leaves (R76, R91). -/
structure SecondFaulted (s t : State) : Prop where
  motion : t.motion = { s.motion with extraFaults := min 255 (s.motion.extraFaults + 1) }
  drive : t.drive.AtRest
  enable : t.drive.enable = (s.motion.phase.drives || s.motion.servoLatch)
  cut : s.RunCut t
  position : t.tt.position = s.tt.position
  table : s.tt.phase = .idle → t.tt = s.tt

theorem secondFault_faulted : SecondFaulted s s.secondFault := by
  have motion := secondFault_motion s
  unfold State.secondFault at motion ⊢
  have counted : (s.onMotion fun m => { m with extraFaults := min 255 (m.extraFaults + 1) }).tt = s.tt := rfl
  generalize (s.onMotion fun m => { m with extraFaults := min 255 (m.extraFaults + 1) }) = u at *
  have pulsed := cut_pulsed u
  have rest := cut_atRest u
  have tt : u.cut.tt = s.tt := pulsed.tt.trans counted
  generalize u.cut = v at *
  have stopped := turntableStop_stopped v
  have cut := turntableStop_cut (s := v)
  have position := turntableStop_position (s := v)
  have idle : v.tt.phase = .idle → v.turntableStop = v := fun idle => if_pos idle
  have atRest := turntableStop_atRest rest
  generalize v.turntableStop = w at *
  rw [rederive_motion] at motion
  refine ⟨(rederive_motion w).trans motion, rederive_atRest atRest, ?_,
    (State.RunCut.earlier tt cut).later (rederive_tt w) (rederive_reaction w), ?_, fun quiet => ?_⟩
  · rw [rederive_enable, State.driveWanted, stopped.idle, motion]
    simp
  · rw [rederive_tt, position, tt]
  · rw [rederive_tt, idle (tt ▸ quiet), tt]

end

end Sys2Proof.Machine
end

section
/-! Motion faults, their reports and their clearing (R74 to R77). -/

namespace Sys2Proof.Machine

-- One theorem at a time: each waits for the kernel, and many waiting at once are many threads.
set_option Elab.async false

section
variable {s t : State}

theorem report_first (cause : FaultCause) (running : s.motion.phase ≠ .faulted) :
    FirstFaulted cause s (s.report cause) := by
  rw [State.report, if_neg running]
  exact firstFault_faulted cause

theorem report_second (cause : FaultCause) (faulted : s.motion.phase = .faulted) :
    SecondFaulted s (s.report cause) := by
  rw [State.report, if_pos faulted]
  exact secondFault_faulted

theorem State.ShowStopped.not_armed {cause : ShowCause} (h : s.ShowStopped cause t) : t.cues.engine ≠ .armed := by
  rw [h.1, (showStop_show s cause).1]
  dsimp only
  split
  · nofun
  · assumption

theorem FirstFaulted.table {cause : FaultCause} (h : FirstFaulted cause s t) :
    t.tt.position = s.tt.position ∧ (s.tt.phase = .idle → t.tt = s.tt) := by
  rw [h.tt]
  exact ⟨stopAll_position, stopAll_idle⟩

/-- A fault cleared (R77). -/
def State.faultCleared (s : State) : State :=
  ((s.onMotion fun m => { m with fault := none, extraFaults := 0 }).enterPhase .idle).onRoute fun r =>
    { r with errors := ⟨0, 0, 0⟩, conditions := ⟨false, false, false⟩ }

theorem faultCleared_motion :
    s.faultCleared.motion = { s.motion with phase := .idle, fault := none, extraFaults := 0 } := by
  unfold State.faultCleared
  rw [State.onRoute_motion, enterPhase_motion, State.onMotion_motion]

theorem faultCleared_outside : SameBut [.records, .route, .motion] s s.faultCleared :=
  SameBut_seq (SameBut_seq (c := [.records, .motion]) (onMotion_outside _ _) (enterPhase_outside _ _))
    (onRoute_outside _ _)

theorem faultCleared_told (faulted : s.motion.phase = .faulted) : Told [] [.idle] s s.faultCleared := by
  have entered : (s.onMotion fun m => { m with fault := none, extraFaults := 0 }).motion.phase ≠ .idle := by
    rw [State.onMotion_motion]
    exact fun idle => by cases faulted.symm.trans idle
  exact enterPhase_told entered

theorem exec_clearMotionFault_next (p : Port) (live : s.inReset = false) :
    ∃ t, exec (.clearMotionFault p) s = .next t
      ∧ if p ≠ .b then RefusedOn p .rights 0x28 s t
        else if s.motion.phase ≠ .faulted then RefusedOn p .state 0x28 s t
        else
          t.motion = { s.motion with phase := .idle, fault := none, extraFaults := 0 }
          ∧ t.route = { s.route with errors := ⟨0, 0, 0⟩, conditions := ⟨false, false, false⟩ }
          ∧ t.drive.enable = (s.tt.phase != .idle || s.motion.servoLatch)
          ∧ Told [] [.idle] s t
          ∧ SameBut [.framing, .records, .route, .motion, .drive, .seats, .model] s t := by
  refine judgedCommand_next live fun u t hu refused accepted => ?_
  have motion : u.motion = s.motion := hu.same .motion
  have phase : u.motion.phase = s.motion.phase := by rw [motion]
  unfold State.clearFaultJudged at refused accepted
  split
  · next running => exact refused _ (if_pos (phase ▸ running))
  next faulted =>
  have taken := accepted _ (if_neg (phase ▸ faulted))
  have told := faultCleared_told (s := u) (phase.trans (not_not.mp faulted))
  have cleared := faultCleared_motion (s := u)
  have outside := faultCleared_outside (s := u)
  have route : u.faultCleared.route = { u.route with errors := ⟨0, 0, 0⟩, conditions := ⟨false, false, false⟩ } := by
    unfold State.faultCleared
    rw [State.onRoute_route, enterPhase_route]
    rfl
  replace taken : SameBut [.framing] u.faultCleared.rederive t := taken
  generalize u.faultCleared = v at *
  have told : Told [] [.idle] u v.rederive :=
    Told.trans (outside.same .masks) told (.of_same ((rederive_outside v).same .records))
  refine ⟨?_, ?_, ?_, Told.framed hu told taken, SameBut.framed hu
    (SameBut_seq (c := [.records, .route, .motion, .drive, .seats, .model]) outside (rederive_outside v)) taken⟩
  · rw [show t.motion = _ from taken.same .motion, rederive_motion, cleared, motion]
  · rw [show t.route = _ from taken.same .route, rederive_route, route, show u.route = s.route from hu.same .route]
  · rw [show t.drive = _ from taken.same .drive, rederive_enable, State.driveWanted, cleared, motion,
      show v.tt = u.tt from outside.same .turntable, show u.tt = s.tt from hu.same .turntable]
    rfl

end

/-- Settles O26: the first report, a later one, and the one way out of FAULTED. -/
theorem motionFaults : Obligations.MotionFaults := by
  refine ⟨fun cause s => ⟨fun running => ?_, fun faulted => ?_⟩, fun p s live => exec_clearMotionFault_next p live⟩
  · have first := report_first cause running
    have outside := report_outside s cause
    generalize s.report cause = t at *
    obtain ⟨position, idle⟩ := first.table
    have motion := first.motion
    refine ⟨first.stopped, ?_, ?_, ?_, ?_, first.told, first.permit, first.shown.not_armed, first.shown, first.cut,
      position, idle, outside⟩
    · exact congrArg MotionGenerator.phase motion
    · exact congrArg MotionGenerator.fault motion
    · exact (congrArg MotionGenerator.extraFaults motion :)
    · exact (congrArg MotionGenerator.lastStop motion :)
  · have second := report_second cause faulted
    have outside : SameBut [.records, .motion, .drive, .turntable, .seats, .model] s (s.report cause) := by
      rw [State.report, if_pos faulted]
      exact secondFault_outside s
    generalize s.report cause = t at *
    obtain ⟨accumulator, residual, brake, plans⟩ := second.drive
    refine ⟨second.motion, accumulator, residual, brake, plans, ?_, second.cut, second.position, second.table, outside⟩
    rw [second.enable, faulted]
    rfl

end Sys2Proof.Machine
end
